-- ==== Sys2Proof/Word.lean ====
section
/-! DEFINITION. The machine's two word types (R5: 8-bit data, 16-bit addresses). -/

namespace Sys2Proof

/-- An 8-bit value: a CPU register, a memory byte, an operand byte. -/
abbrev Byte := BitVec 8

/-- A 16-bit value: PC, a CPU address, a Loopy register, a background shifter. -/
abbrev Word := BitVec 16

end Sys2Proof
end

