-- ==== Sys2Proof/Config.lean ====
section
/-! DEFINITION. What R6 leaves as parameters of the machine. Every value the spec leaves open is a constant without a
body, so that no proof can lean on one; the one parameter with a default the spec takes is PPU_RESET_POSITION. -/

namespace Sys2Proof.Config

/-- `ILLEGAL_OPCODE_CLOCKS` less one (R6, R318: a natural number that is at least 1). Free; log 7. -/
opaque illegalOpcodeExtraClocks : Nat

/-- `ILLEGAL_OPCODE_CLOCKS` (R6, R318). -/
def illegalOpcodeClocks : Nat := illegalOpcodeExtraClocks + 1

/-- `PALETTE_ARGB` (R6, R394): the 64-entry colour table. Free; log 6. -/
opaque paletteArgb : BitVec 6 → BitVec 32

/-- `OAM_INIT` (R6, R451). Free; log 4. -/
opaque oamInit : Nat → Byte

/-- `VRAM_INIT` (R6, R451), by `1024 * nametable + offset`. Free; log 4. -/
opaque vramInit : Nat → Byte

/-- `PALETTE_INIT` (R6, R451). Free; log 4. -/
opaque paletteInit : Nat → Byte

/-- `PATTERN_INIT` (R6, R451), by `4096 * page + offset`. Free; log 4. -/
opaque patternInit : Nat → Byte

/-- The frame buffer before its first write (R57, R451), by `256 * row + column`. Free; log 5. -/
opaque frameBufferInit : Nat → BitVec 32

/-- Which nametable a quadrant selects while NO cartridge is inserted: R122 gives the map only for a cartridge's
mirroring mode. Free; log 10. -/
opaque noCartridgeNametable : BitVec 2 → Bool

/-- `PPU_RESET_POSITION` (R6): the default (scanline, cycle) the spec takes. The reset operation takes the position as
an argument; only `State.reset` uses this default; log 8. -/
def ppuResetPosition : Int × Nat := (0, 0)

end Sys2Proof.Config
end

