-- ==== Sys2Proof/Syntax.lean ====
section
/-! DEFINITION. The instruction set as syntax: one constructor for every documented row of spec/opcode_table.json, with
its operand bytes as it carries them (R141), and one for the 105 rows `???` of the illegal stub, which differ in their
opcode byte alone (R147, R318; log 17). -/

namespace Sys2Proof

/-- The addressing modes of R141, each with its operand. A 16-bit operand is already assembled (R142). -/
inductive Mode where
  | imp
  | acc
  | imm (value : Byte)
  | zp0 (zp : Byte)
  | zpx (zp : Byte)
  | zpy (zp : Byte)
  | abs (addr : Word)
  | abx (base : Word)
  | aby (base : Word)
  | ind (ptr : Word)
  | izx (zp : Byte)
  | izy (zp : Byte)
  | rel (offset : Byte)
deriving DecidableEq, Repr

/-- The 56 mnemonics of R146, and the illegal stub's `???`. -/
inductive Mnemonic where
  | lda | ldx | ldy
  | sta | stx | sty
  | tax | tay | tsx | txa | txs | tya
  | adc | sbc | inc | inx | iny | dec | dex | dey
  | and | ora | eor | bit
  | asl | lsr | rol | ror
  | bcc | bcs | beq | bmi | bne | bpl | bvc | bvs
  | cmp | cpx | cpy
  | jmp | jsr | rts | brk | rti
  | pha | php | pla | plp
  | clc | sec | cld | sed | cli | sei | clv | nop
  | illegal
deriving DecidableEq, Repr

/-- The instructions. The comment on a constructor gives its opcode byte, its syntax (R148) and its rule. -/
inductive Instr where
  -- Loads (R201 to R203)
  | ldaImm (value : Byte)  -- 0xA9 LDA #$nn (R201)
  | ldaZp0 (zp : Byte)  -- 0xA5 LDA $nn (R201)
  | ldaZpx (zp : Byte)  -- 0xB5 LDA $nn,X (R201)
  | ldaAbs (addr : Word)  -- 0xAD LDA $hhll (R201)
  | ldaAbx (base : Word)  -- 0xBD LDA $hhll,X (R201)
  | ldaAby (base : Word)  -- 0xB9 LDA $hhll,Y (R201)
  | ldaIzx (zp : Byte)  -- 0xA1 LDA ($nn,X) (R201)
  | ldaIzy (zp : Byte)  -- 0xB1 LDA ($nn),Y (R201)
  | ldxImm (value : Byte)  -- 0xA2 LDX #$nn (R202)
  | ldxZp0 (zp : Byte)  -- 0xA6 LDX $nn (R202)
  | ldxZpy (zp : Byte)  -- 0xB6 LDX $nn,Y (R202)
  | ldxAbs (addr : Word)  -- 0xAE LDX $hhll (R202)
  | ldxAby (base : Word)  -- 0xBE LDX $hhll,Y (R202)
  | ldyImm (value : Byte)  -- 0xA0 LDY #$nn (R203)
  | ldyZp0 (zp : Byte)  -- 0xA4 LDY $nn (R203)
  | ldyZpx (zp : Byte)  -- 0xB4 LDY $nn,X (R203)
  | ldyAbs (addr : Word)  -- 0xAC LDY $hhll (R203)
  | ldyAbx (base : Word)  -- 0xBC LDY $hhll,X (R203)
  -- Stores (R204 to R206)
  | staZp0 (zp : Byte)  -- 0x85 STA $nn (R204)
  | staZpx (zp : Byte)  -- 0x95 STA $nn,X (R204)
  | staAbs (addr : Word)  -- 0x8D STA $hhll (R204)
  | staAbx (base : Word)  -- 0x9D STA $hhll,X (R204)
  | staAby (base : Word)  -- 0x99 STA $hhll,Y (R204)
  | staIzx (zp : Byte)  -- 0x81 STA ($nn,X) (R204)
  | staIzy (zp : Byte)  -- 0x91 STA ($nn),Y (R204)
  | stxZp0 (zp : Byte)  -- 0x86 STX $nn (R205)
  | stxZpy (zp : Byte)  -- 0x96 STX $nn,Y (R205)
  | stxAbs (addr : Word)  -- 0x8E STX $hhll (R205)
  | styZp0 (zp : Byte)  -- 0x84 STY $nn (R206)
  | styZpx (zp : Byte)  -- 0x94 STY $nn,X (R206)
  | styAbs (addr : Word)  -- 0x8C STY $hhll (R206)
  -- Register transfers (R207 to R212)
  | tax  -- 0xAA TAX (R207)
  | tay  -- 0xA8 TAY (R208)
  | tsx  -- 0xBA TSX (R209)
  | txa  -- 0x8A TXA (R210)
  | txs  -- 0x9A TXS (R211)
  | tya  -- 0x98 TYA (R212)
  -- Arithmetic (R230 to R238)
  | adcImm (value : Byte)  -- 0x69 ADC #$nn (R231)
  | adcZp0 (zp : Byte)  -- 0x65 ADC $nn (R231)
  | adcZpx (zp : Byte)  -- 0x75 ADC $nn,X (R231)
  | adcAbs (addr : Word)  -- 0x6D ADC $hhll (R231)
  | adcAbx (base : Word)  -- 0x7D ADC $hhll,X (R231)
  | adcAby (base : Word)  -- 0x79 ADC $hhll,Y (R231)
  | adcIzx (zp : Byte)  -- 0x61 ADC ($nn,X) (R231)
  | adcIzy (zp : Byte)  -- 0x71 ADC ($nn),Y (R231)
  | sbcImm (value : Byte)  -- 0xE9 SBC #$nn (R232)
  | sbcZp0 (zp : Byte)  -- 0xE5 SBC $nn (R232)
  | sbcZpx (zp : Byte)  -- 0xF5 SBC $nn,X (R232)
  | sbcAbs (addr : Word)  -- 0xED SBC $hhll (R232)
  | sbcAbx (base : Word)  -- 0xFD SBC $hhll,X (R232)
  | sbcAby (base : Word)  -- 0xF9 SBC $hhll,Y (R232)
  | sbcIzx (zp : Byte)  -- 0xE1 SBC ($nn,X) (R232)
  | sbcIzy (zp : Byte)  -- 0xF1 SBC ($nn),Y (R232)
  | incZp0 (zp : Byte)  -- 0xE6 INC $nn (R233)
  | incZpx (zp : Byte)  -- 0xF6 INC $nn,X (R233)
  | incAbs (addr : Word)  -- 0xEE INC $hhll (R233)
  | incAbx (base : Word)  -- 0xFE INC $hhll,X (R233)
  | inx  -- 0xE8 INX (R234)
  | iny  -- 0xC8 INY (R235)
  | decZp0 (zp : Byte)  -- 0xC6 DEC $nn (R236)
  | decZpx (zp : Byte)  -- 0xD6 DEC $nn,X (R236)
  | decAbs (addr : Word)  -- 0xCE DEC $hhll (R236)
  | decAbx (base : Word)  -- 0xDE DEC $hhll,X (R236)
  | dex  -- 0xCA DEX (R237)
  | dey  -- 0x88 DEY (R238)
  -- Logic (R250 to R253)
  | andImm (value : Byte)  -- 0x29 AND #$nn (R250)
  | andZp0 (zp : Byte)  -- 0x25 AND $nn (R250)
  | andZpx (zp : Byte)  -- 0x35 AND $nn,X (R250)
  | andAbs (addr : Word)  -- 0x2D AND $hhll (R250)
  | andAbx (base : Word)  -- 0x3D AND $hhll,X (R250)
  | andAby (base : Word)  -- 0x39 AND $hhll,Y (R250)
  | andIzx (zp : Byte)  -- 0x21 AND ($nn,X) (R250)
  | andIzy (zp : Byte)  -- 0x31 AND ($nn),Y (R250)
  | oraImm (value : Byte)  -- 0x09 ORA #$nn (R251)
  | oraZp0 (zp : Byte)  -- 0x05 ORA $nn (R251)
  | oraZpx (zp : Byte)  -- 0x15 ORA $nn,X (R251)
  | oraAbs (addr : Word)  -- 0x0D ORA $hhll (R251)
  | oraAbx (base : Word)  -- 0x1D ORA $hhll,X (R251)
  | oraAby (base : Word)  -- 0x19 ORA $hhll,Y (R251)
  | oraIzx (zp : Byte)  -- 0x01 ORA ($nn,X) (R251)
  | oraIzy (zp : Byte)  -- 0x11 ORA ($nn),Y (R251)
  | eorImm (value : Byte)  -- 0x49 EOR #$nn (R252)
  | eorZp0 (zp : Byte)  -- 0x45 EOR $nn (R252)
  | eorZpx (zp : Byte)  -- 0x55 EOR $nn,X (R252)
  | eorAbs (addr : Word)  -- 0x4D EOR $hhll (R252)
  | eorAbx (base : Word)  -- 0x5D EOR $hhll,X (R252)
  | eorAby (base : Word)  -- 0x59 EOR $hhll,Y (R252)
  | eorIzx (zp : Byte)  -- 0x41 EOR ($nn,X) (R252)
  | eorIzy (zp : Byte)  -- 0x51 EOR ($nn),Y (R252)
  | bitZp0 (zp : Byte)  -- 0x24 BIT $nn (R253)
  | bitAbs (addr : Word)  -- 0x2C BIT $hhll (R253)
  -- Shifts and rotates (R260 to R264)
  | aslAcc  -- 0x0A ASL A (R261)
  | aslZp0 (zp : Byte)  -- 0x06 ASL $nn (R261)
  | aslZpx (zp : Byte)  -- 0x16 ASL $nn,X (R261)
  | aslAbs (addr : Word)  -- 0x0E ASL $hhll (R261)
  | aslAbx (base : Word)  -- 0x1E ASL $hhll,X (R261)
  | lsrAcc  -- 0x4A LSR A (R262)
  | lsrZp0 (zp : Byte)  -- 0x46 LSR $nn (R262)
  | lsrZpx (zp : Byte)  -- 0x56 LSR $nn,X (R262)
  | lsrAbs (addr : Word)  -- 0x4E LSR $hhll (R262)
  | lsrAbx (base : Word)  -- 0x5E LSR $hhll,X (R262)
  | rolAcc  -- 0x2A ROL A (R263)
  | rolZp0 (zp : Byte)  -- 0x26 ROL $nn (R263)
  | rolZpx (zp : Byte)  -- 0x36 ROL $nn,X (R263)
  | rolAbs (addr : Word)  -- 0x2E ROL $hhll (R263)
  | rolAbx (base : Word)  -- 0x3E ROL $hhll,X (R263)
  | rorAcc  -- 0x6A ROR A (R264)
  | rorZp0 (zp : Byte)  -- 0x66 ROR $nn (R264)
  | rorZpx (zp : Byte)  -- 0x76 ROR $nn,X (R264)
  | rorAbs (addr : Word)  -- 0x6E ROR $hhll (R264)
  | rorAbx (base : Word)  -- 0x7E ROR $hhll,X (R264)
  -- Branches (R270 to R278)
  | bcc (offset : Byte)  -- 0x90 BCC label (R271)
  | bcs (offset : Byte)  -- 0xB0 BCS label (R272)
  | beq (offset : Byte)  -- 0xF0 BEQ label (R273)
  | bmi (offset : Byte)  -- 0x30 BMI label (R274)
  | bne (offset : Byte)  -- 0xD0 BNE label (R275)
  | bpl (offset : Byte)  -- 0x10 BPL label (R276)
  | bvc (offset : Byte)  -- 0x50 BVC label (R277)
  | bvs (offset : Byte)  -- 0x70 BVS label (R278)
  -- Compares (R280 to R283)
  | cmpImm (value : Byte)  -- 0xC9 CMP #$nn (R281)
  | cmpZp0 (zp : Byte)  -- 0xC5 CMP $nn (R281)
  | cmpZpx (zp : Byte)  -- 0xD5 CMP $nn,X (R281)
  | cmpAbs (addr : Word)  -- 0xCD CMP $hhll (R281)
  | cmpAbx (base : Word)  -- 0xDD CMP $hhll,X (R281)
  | cmpAby (base : Word)  -- 0xD9 CMP $hhll,Y (R281)
  | cmpIzx (zp : Byte)  -- 0xC1 CMP ($nn,X) (R281)
  | cmpIzy (zp : Byte)  -- 0xD1 CMP ($nn),Y (R281)
  | cpxImm (value : Byte)  -- 0xE0 CPX #$nn (R282)
  | cpxZp0 (zp : Byte)  -- 0xE4 CPX $nn (R282)
  | cpxAbs (addr : Word)  -- 0xEC CPX $hhll (R282)
  | cpyImm (value : Byte)  -- 0xC0 CPY #$nn (R283)
  | cpyZp0 (zp : Byte)  -- 0xC4 CPY $nn (R283)
  | cpyAbs (addr : Word)  -- 0xCC CPY $hhll (R283)
  -- Jumps, calls, returns, BRK, RTI (R290 to R294)
  | jmpAbs (addr : Word)  -- 0x4C JMP $hhll (R290)
  | jmpInd (ptr : Word)  -- 0x6C JMP ($hhll) (R290)
  | jsr (addr : Word)  -- 0x20 JSR $hhll (R291)
  | rts  -- 0x60 RTS (R292)
  | brk  -- 0x00 BRK (R293)
  | rti  -- 0x40 RTI (R294)
  -- Stack (R300 to R303)
  | pha  -- 0x48 PHA (R300)
  | php  -- 0x08 PHP (R301)
  | pla  -- 0x68 PLA (R302)
  | plp  -- 0x28 PLP (R303)
  -- Flag instructions and NOP (R310 to R317)
  | clc  -- 0x18 CLC (R310)
  | sec  -- 0x38 SEC (R311)
  | cld  -- 0xD8 CLD (R312)
  | sed  -- 0xF8 SED (R313)
  | cli  -- 0x58 CLI (R314)
  | sei  -- 0x78 SEI (R315)
  | clv  -- 0xB8 CLV (R316)
  | nop  -- 0xEA NOP (R317)
  -- The illegal stub: each of the 105 bytes of R147 (R318)
  | illegal (opcode : Byte)
deriving DecidableEq, Repr

end Sys2Proof
end

