-- ==== Sys2Proof/Decode.lean ====
section
/-! DEFINITION. From bytes to instructions and back: the table of R144 to R146 as one row per constructor (what an
instruction is encoded as, and its base count), the opcode map of R145 as the decoder reads it, the decoder and the
encoder. -/

namespace Sys2Proof

/-! ### Byte order (R97: little-endian) -/

/-- A 16-bit value from its low and its high byte. -/
def wordOf (lo hi : Byte) : Word := hi ++ lo

/-- Bits 7 to 0. -/
def loByte (w : Word) : Byte := w.extractLsb' 0 8

/-- Bits 15 to 8. -/
def hiByte (w : Word) : Byte := w.extractLsb' 8 8

/-! ### The rows of the table -/

/-- One row of spec/opcode_table.json with its operand filled in. -/
structure Row where
  mnemonic   : Mnemonic
  opcode     : Byte
  mode       : Mode
  baseCycles : Nat
deriving DecidableEq, Repr

/-- The operand bytes in the order they follow the opcode (R141). -/
def Mode.operandBytes : Mode → List Byte
  | .imp | .acc => []
  | .imm b | .zp0 b | .zpx b | .zpy b | .izx b | .izy b | .rel b => [b]
  | .abs w | .abx w | .aby w | .ind w => [loByte w, hiByte w]

/-- The length of an instruction in bytes (R143). -/
def Mode.length (m : Mode) : Nat := 1 + m.operandBytes.length

/-- The table row of each instruction: mnemonic, opcode byte, mode, base count (R145, R146). -/
def Instr.row : Instr → Row
  | .ldaImm value => ⟨.lda, 0xA9, .imm value, 2⟩
  | .ldaZp0 zp => ⟨.lda, 0xA5, .zp0 zp, 3⟩
  | .ldaZpx zp => ⟨.lda, 0xB5, .zpx zp, 4⟩
  | .ldaAbs addr => ⟨.lda, 0xAD, .abs addr, 4⟩
  | .ldaAbx base => ⟨.lda, 0xBD, .abx base, 4⟩
  | .ldaAby base => ⟨.lda, 0xB9, .aby base, 4⟩
  | .ldaIzx zp => ⟨.lda, 0xA1, .izx zp, 6⟩
  | .ldaIzy zp => ⟨.lda, 0xB1, .izy zp, 5⟩
  | .ldxImm value => ⟨.ldx, 0xA2, .imm value, 2⟩
  | .ldxZp0 zp => ⟨.ldx, 0xA6, .zp0 zp, 3⟩
  | .ldxZpy zp => ⟨.ldx, 0xB6, .zpy zp, 4⟩
  | .ldxAbs addr => ⟨.ldx, 0xAE, .abs addr, 4⟩
  | .ldxAby base => ⟨.ldx, 0xBE, .aby base, 4⟩
  | .ldyImm value => ⟨.ldy, 0xA0, .imm value, 2⟩
  | .ldyZp0 zp => ⟨.ldy, 0xA4, .zp0 zp, 3⟩
  | .ldyZpx zp => ⟨.ldy, 0xB4, .zpx zp, 4⟩
  | .ldyAbs addr => ⟨.ldy, 0xAC, .abs addr, 4⟩
  | .ldyAbx base => ⟨.ldy, 0xBC, .abx base, 4⟩
  | .staZp0 zp => ⟨.sta, 0x85, .zp0 zp, 3⟩
  | .staZpx zp => ⟨.sta, 0x95, .zpx zp, 4⟩
  | .staAbs addr => ⟨.sta, 0x8D, .abs addr, 4⟩
  | .staAbx base => ⟨.sta, 0x9D, .abx base, 5⟩
  | .staAby base => ⟨.sta, 0x99, .aby base, 5⟩
  | .staIzx zp => ⟨.sta, 0x81, .izx zp, 6⟩
  | .staIzy zp => ⟨.sta, 0x91, .izy zp, 6⟩
  | .stxZp0 zp => ⟨.stx, 0x86, .zp0 zp, 3⟩
  | .stxZpy zp => ⟨.stx, 0x96, .zpy zp, 4⟩
  | .stxAbs addr => ⟨.stx, 0x8E, .abs addr, 4⟩
  | .styZp0 zp => ⟨.sty, 0x84, .zp0 zp, 3⟩
  | .styZpx zp => ⟨.sty, 0x94, .zpx zp, 4⟩
  | .styAbs addr => ⟨.sty, 0x8C, .abs addr, 4⟩
  | .tax => ⟨.tax, 0xAA, .imp, 2⟩
  | .tay => ⟨.tay, 0xA8, .imp, 2⟩
  | .tsx => ⟨.tsx, 0xBA, .imp, 2⟩
  | .txa => ⟨.txa, 0x8A, .imp, 2⟩
  | .txs => ⟨.txs, 0x9A, .imp, 2⟩
  | .tya => ⟨.tya, 0x98, .imp, 2⟩
  | .adcImm value => ⟨.adc, 0x69, .imm value, 2⟩
  | .adcZp0 zp => ⟨.adc, 0x65, .zp0 zp, 3⟩
  | .adcZpx zp => ⟨.adc, 0x75, .zpx zp, 4⟩
  | .adcAbs addr => ⟨.adc, 0x6D, .abs addr, 4⟩
  | .adcAbx base => ⟨.adc, 0x7D, .abx base, 4⟩
  | .adcAby base => ⟨.adc, 0x79, .aby base, 4⟩
  | .adcIzx zp => ⟨.adc, 0x61, .izx zp, 6⟩
  | .adcIzy zp => ⟨.adc, 0x71, .izy zp, 5⟩
  | .sbcImm value => ⟨.sbc, 0xE9, .imm value, 2⟩
  | .sbcZp0 zp => ⟨.sbc, 0xE5, .zp0 zp, 3⟩
  | .sbcZpx zp => ⟨.sbc, 0xF5, .zpx zp, 4⟩
  | .sbcAbs addr => ⟨.sbc, 0xED, .abs addr, 4⟩
  | .sbcAbx base => ⟨.sbc, 0xFD, .abx base, 4⟩
  | .sbcAby base => ⟨.sbc, 0xF9, .aby base, 4⟩
  | .sbcIzx zp => ⟨.sbc, 0xE1, .izx zp, 6⟩
  | .sbcIzy zp => ⟨.sbc, 0xF1, .izy zp, 5⟩
  | .incZp0 zp => ⟨.inc, 0xE6, .zp0 zp, 5⟩
  | .incZpx zp => ⟨.inc, 0xF6, .zpx zp, 6⟩
  | .incAbs addr => ⟨.inc, 0xEE, .abs addr, 6⟩
  | .incAbx base => ⟨.inc, 0xFE, .abx base, 7⟩
  | .inx => ⟨.inx, 0xE8, .imp, 2⟩
  | .iny => ⟨.iny, 0xC8, .imp, 2⟩
  | .decZp0 zp => ⟨.dec, 0xC6, .zp0 zp, 5⟩
  | .decZpx zp => ⟨.dec, 0xD6, .zpx zp, 6⟩
  | .decAbs addr => ⟨.dec, 0xCE, .abs addr, 6⟩
  | .decAbx base => ⟨.dec, 0xDE, .abx base, 7⟩
  | .dex => ⟨.dex, 0xCA, .imp, 2⟩
  | .dey => ⟨.dey, 0x88, .imp, 2⟩
  | .andImm value => ⟨.and, 0x29, .imm value, 2⟩
  | .andZp0 zp => ⟨.and, 0x25, .zp0 zp, 3⟩
  | .andZpx zp => ⟨.and, 0x35, .zpx zp, 4⟩
  | .andAbs addr => ⟨.and, 0x2D, .abs addr, 4⟩
  | .andAbx base => ⟨.and, 0x3D, .abx base, 4⟩
  | .andAby base => ⟨.and, 0x39, .aby base, 4⟩
  | .andIzx zp => ⟨.and, 0x21, .izx zp, 6⟩
  | .andIzy zp => ⟨.and, 0x31, .izy zp, 5⟩
  | .oraImm value => ⟨.ora, 0x09, .imm value, 2⟩
  | .oraZp0 zp => ⟨.ora, 0x05, .zp0 zp, 3⟩
  | .oraZpx zp => ⟨.ora, 0x15, .zpx zp, 4⟩
  | .oraAbs addr => ⟨.ora, 0x0D, .abs addr, 4⟩
  | .oraAbx base => ⟨.ora, 0x1D, .abx base, 4⟩
  | .oraAby base => ⟨.ora, 0x19, .aby base, 4⟩
  | .oraIzx zp => ⟨.ora, 0x01, .izx zp, 6⟩
  | .oraIzy zp => ⟨.ora, 0x11, .izy zp, 5⟩
  | .eorImm value => ⟨.eor, 0x49, .imm value, 2⟩
  | .eorZp0 zp => ⟨.eor, 0x45, .zp0 zp, 3⟩
  | .eorZpx zp => ⟨.eor, 0x55, .zpx zp, 4⟩
  | .eorAbs addr => ⟨.eor, 0x4D, .abs addr, 4⟩
  | .eorAbx base => ⟨.eor, 0x5D, .abx base, 4⟩
  | .eorAby base => ⟨.eor, 0x59, .aby base, 4⟩
  | .eorIzx zp => ⟨.eor, 0x41, .izx zp, 6⟩
  | .eorIzy zp => ⟨.eor, 0x51, .izy zp, 5⟩
  | .bitZp0 zp => ⟨.bit, 0x24, .zp0 zp, 3⟩
  | .bitAbs addr => ⟨.bit, 0x2C, .abs addr, 4⟩
  | .aslAcc => ⟨.asl, 0x0A, .acc, 2⟩
  | .aslZp0 zp => ⟨.asl, 0x06, .zp0 zp, 5⟩
  | .aslZpx zp => ⟨.asl, 0x16, .zpx zp, 6⟩
  | .aslAbs addr => ⟨.asl, 0x0E, .abs addr, 6⟩
  | .aslAbx base => ⟨.asl, 0x1E, .abx base, 7⟩
  | .lsrAcc => ⟨.lsr, 0x4A, .acc, 2⟩
  | .lsrZp0 zp => ⟨.lsr, 0x46, .zp0 zp, 5⟩
  | .lsrZpx zp => ⟨.lsr, 0x56, .zpx zp, 6⟩
  | .lsrAbs addr => ⟨.lsr, 0x4E, .abs addr, 6⟩
  | .lsrAbx base => ⟨.lsr, 0x5E, .abx base, 7⟩
  | .rolAcc => ⟨.rol, 0x2A, .acc, 2⟩
  | .rolZp0 zp => ⟨.rol, 0x26, .zp0 zp, 5⟩
  | .rolZpx zp => ⟨.rol, 0x36, .zpx zp, 6⟩
  | .rolAbs addr => ⟨.rol, 0x2E, .abs addr, 6⟩
  | .rolAbx base => ⟨.rol, 0x3E, .abx base, 7⟩
  | .rorAcc => ⟨.ror, 0x6A, .acc, 2⟩
  | .rorZp0 zp => ⟨.ror, 0x66, .zp0 zp, 5⟩
  | .rorZpx zp => ⟨.ror, 0x76, .zpx zp, 6⟩
  | .rorAbs addr => ⟨.ror, 0x6E, .abs addr, 6⟩
  | .rorAbx base => ⟨.ror, 0x7E, .abx base, 7⟩
  | .bcc offset => ⟨.bcc, 0x90, .rel offset, 2⟩
  | .bcs offset => ⟨.bcs, 0xB0, .rel offset, 2⟩
  | .beq offset => ⟨.beq, 0xF0, .rel offset, 2⟩
  | .bmi offset => ⟨.bmi, 0x30, .rel offset, 2⟩
  | .bne offset => ⟨.bne, 0xD0, .rel offset, 2⟩
  | .bpl offset => ⟨.bpl, 0x10, .rel offset, 2⟩
  | .bvc offset => ⟨.bvc, 0x50, .rel offset, 2⟩
  | .bvs offset => ⟨.bvs, 0x70, .rel offset, 2⟩
  | .cmpImm value => ⟨.cmp, 0xC9, .imm value, 2⟩
  | .cmpZp0 zp => ⟨.cmp, 0xC5, .zp0 zp, 3⟩
  | .cmpZpx zp => ⟨.cmp, 0xD5, .zpx zp, 4⟩
  | .cmpAbs addr => ⟨.cmp, 0xCD, .abs addr, 4⟩
  | .cmpAbx base => ⟨.cmp, 0xDD, .abx base, 4⟩
  | .cmpAby base => ⟨.cmp, 0xD9, .aby base, 4⟩
  | .cmpIzx zp => ⟨.cmp, 0xC1, .izx zp, 6⟩
  | .cmpIzy zp => ⟨.cmp, 0xD1, .izy zp, 5⟩
  | .cpxImm value => ⟨.cpx, 0xE0, .imm value, 2⟩
  | .cpxZp0 zp => ⟨.cpx, 0xE4, .zp0 zp, 3⟩
  | .cpxAbs addr => ⟨.cpx, 0xEC, .abs addr, 4⟩
  | .cpyImm value => ⟨.cpy, 0xC0, .imm value, 2⟩
  | .cpyZp0 zp => ⟨.cpy, 0xC4, .zp0 zp, 3⟩
  | .cpyAbs addr => ⟨.cpy, 0xCC, .abs addr, 4⟩
  | .jmpAbs addr => ⟨.jmp, 0x4C, .abs addr, 3⟩
  | .jmpInd ptr => ⟨.jmp, 0x6C, .ind ptr, 5⟩
  | .jsr addr => ⟨.jsr, 0x20, .abs addr, 6⟩
  | .rts => ⟨.rts, 0x60, .imp, 6⟩
  | .brk => ⟨.brk, 0x00, .imp, 7⟩
  | .rti => ⟨.rti, 0x40, .imp, 6⟩
  | .pha => ⟨.pha, 0x48, .imp, 3⟩
  | .php => ⟨.php, 0x08, .imp, 3⟩
  | .pla => ⟨.pla, 0x68, .imp, 4⟩
  | .plp => ⟨.plp, 0x28, .imp, 4⟩
  | .clc => ⟨.clc, 0x18, .imp, 2⟩
  | .sec => ⟨.sec, 0x38, .imp, 2⟩
  | .cld => ⟨.cld, 0xD8, .imp, 2⟩
  | .sed => ⟨.sed, 0xF8, .imp, 2⟩
  | .cli => ⟨.cli, 0x58, .imp, 2⟩
  | .sei => ⟨.sei, 0x78, .imp, 2⟩
  | .clv => ⟨.clv, 0xB8, .imp, 2⟩
  | .nop => ⟨.nop, 0xEA, .imp, 2⟩
  | .illegal opcode => ⟨.illegal, opcode, .imp, Config.illegalOpcodeClocks⟩

/-- The mnemonic of an instruction (R146). -/
def Instr.mnemonic (i : Instr) : Mnemonic := i.row.mnemonic

/-- The addressing mode of an instruction, with its operand (R141). -/
def Instr.mode (i : Instr) : Mode := i.row.mode

/-! ### The decoder -/

/-- How an opcode's row builds its instruction from the first and the second operand byte. -/
abbrev Builder := Byte → Byte → Instr

/-- A row with no operand byte. -/
def op0 (i : Instr) : Builder := fun _ _ => i

/-- A row with one operand byte. -/
def op1 (f : Byte → Instr) : Builder := fun lo _ => f lo

/-- A row with a 16-bit operand, low byte first (R142). -/
def op2 (f : Word → Instr) : Builder := fun lo hi => f (wordOf lo hi)

/-- A row of the illegal stub (R147). -/
def ill (opcode : Byte) : Builder := op0 (.illegal opcode)

/-- Row 0x of the opcode map (R145). -/
def opcodeRow0 : List Builder :=
  [op0 .brk, op1 .oraIzx, ill 0x02, ill 0x03, ill 0x04, op1 .oraZp0, op1 .aslZp0, ill 0x07] ++
  [op0 .php, op1 .oraImm, op0 .aslAcc, ill 0x0B, ill 0x0C, op2 .oraAbs, op2 .aslAbs, ill 0x0F]

/-- Row 1x of the opcode map (R145). -/
def opcodeRow1 : List Builder :=
  [op1 .bpl, op1 .oraIzy, ill 0x12, ill 0x13, ill 0x14, op1 .oraZpx, op1 .aslZpx, ill 0x17] ++
  [op0 .clc, op2 .oraAby, ill 0x1A, ill 0x1B, ill 0x1C, op2 .oraAbx, op2 .aslAbx, ill 0x1F]

/-- Row 2x of the opcode map (R145). -/
def opcodeRow2 : List Builder :=
  [op2 .jsr, op1 .andIzx, ill 0x22, ill 0x23, op1 .bitZp0, op1 .andZp0, op1 .rolZp0, ill 0x27] ++
  [op0 .plp, op1 .andImm, op0 .rolAcc, ill 0x2B, op2 .bitAbs, op2 .andAbs, op2 .rolAbs, ill 0x2F]

/-- Row 3x of the opcode map (R145). -/
def opcodeRow3 : List Builder :=
  [op1 .bmi, op1 .andIzy, ill 0x32, ill 0x33, ill 0x34, op1 .andZpx, op1 .rolZpx, ill 0x37] ++
  [op0 .sec, op2 .andAby, ill 0x3A, ill 0x3B, ill 0x3C, op2 .andAbx, op2 .rolAbx, ill 0x3F]

/-- Row 4x of the opcode map (R145). -/
def opcodeRow4 : List Builder :=
  [op0 .rti, op1 .eorIzx, ill 0x42, ill 0x43, ill 0x44, op1 .eorZp0, op1 .lsrZp0, ill 0x47] ++
  [op0 .pha, op1 .eorImm, op0 .lsrAcc, ill 0x4B, op2 .jmpAbs, op2 .eorAbs, op2 .lsrAbs, ill 0x4F]

/-- Row 5x of the opcode map (R145). -/
def opcodeRow5 : List Builder :=
  [op1 .bvc, op1 .eorIzy, ill 0x52, ill 0x53, ill 0x54, op1 .eorZpx, op1 .lsrZpx, ill 0x57] ++
  [op0 .cli, op2 .eorAby, ill 0x5A, ill 0x5B, ill 0x5C, op2 .eorAbx, op2 .lsrAbx, ill 0x5F]

/-- Row 6x of the opcode map (R145). -/
def opcodeRow6 : List Builder :=
  [op0 .rts, op1 .adcIzx, ill 0x62, ill 0x63, ill 0x64, op1 .adcZp0, op1 .rorZp0, ill 0x67] ++
  [op0 .pla, op1 .adcImm, op0 .rorAcc, ill 0x6B, op2 .jmpInd, op2 .adcAbs, op2 .rorAbs, ill 0x6F]

/-- Row 7x of the opcode map (R145). -/
def opcodeRow7 : List Builder :=
  [op1 .bvs, op1 .adcIzy, ill 0x72, ill 0x73, ill 0x74, op1 .adcZpx, op1 .rorZpx, ill 0x77] ++
  [op0 .sei, op2 .adcAby, ill 0x7A, ill 0x7B, ill 0x7C, op2 .adcAbx, op2 .rorAbx, ill 0x7F]

/-- Row 8x of the opcode map (R145). -/
def opcodeRow8 : List Builder :=
  [ill 0x80, op1 .staIzx, ill 0x82, ill 0x83, op1 .styZp0, op1 .staZp0, op1 .stxZp0, ill 0x87] ++
  [op0 .dey, ill 0x89, op0 .txa, ill 0x8B, op2 .styAbs, op2 .staAbs, op2 .stxAbs, ill 0x8F]

/-- Row 9x of the opcode map (R145). -/
def opcodeRow9 : List Builder :=
  [op1 .bcc, op1 .staIzy, ill 0x92, ill 0x93, op1 .styZpx, op1 .staZpx, op1 .stxZpy, ill 0x97] ++
  [op0 .tya, op2 .staAby, op0 .txs, ill 0x9B, ill 0x9C, op2 .staAbx, ill 0x9E, ill 0x9F]

/-- Row Ax of the opcode map (R145). -/
def opcodeRowA : List Builder :=
  [op1 .ldyImm, op1 .ldaIzx, op1 .ldxImm, ill 0xA3, op1 .ldyZp0, op1 .ldaZp0, op1 .ldxZp0, ill 0xA7] ++
  [op0 .tay, op1 .ldaImm, op0 .tax, ill 0xAB, op2 .ldyAbs, op2 .ldaAbs, op2 .ldxAbs, ill 0xAF]

/-- Row Bx of the opcode map (R145). -/
def opcodeRowB : List Builder :=
  [op1 .bcs, op1 .ldaIzy, ill 0xB2, ill 0xB3, op1 .ldyZpx, op1 .ldaZpx, op1 .ldxZpy, ill 0xB7] ++
  [op0 .clv, op2 .ldaAby, op0 .tsx, ill 0xBB, op2 .ldyAbx, op2 .ldaAbx, op2 .ldxAby, ill 0xBF]

/-- Row Cx of the opcode map (R145). -/
def opcodeRowC : List Builder :=
  [op1 .cpyImm, op1 .cmpIzx, ill 0xC2, ill 0xC3, op1 .cpyZp0, op1 .cmpZp0, op1 .decZp0, ill 0xC7] ++
  [op0 .iny, op1 .cmpImm, op0 .dex, ill 0xCB, op2 .cpyAbs, op2 .cmpAbs, op2 .decAbs, ill 0xCF]

/-- Row Dx of the opcode map (R145). -/
def opcodeRowD : List Builder :=
  [op1 .bne, op1 .cmpIzy, ill 0xD2, ill 0xD3, ill 0xD4, op1 .cmpZpx, op1 .decZpx, ill 0xD7] ++
  [op0 .cld, op2 .cmpAby, ill 0xDA, ill 0xDB, ill 0xDC, op2 .cmpAbx, op2 .decAbx, ill 0xDF]

/-- Row Ex of the opcode map (R145). -/
def opcodeRowE : List Builder :=
  [op1 .cpxImm, op1 .sbcIzx, ill 0xE2, ill 0xE3, op1 .cpxZp0, op1 .sbcZp0, op1 .incZp0, ill 0xE7] ++
  [op0 .inx, op1 .sbcImm, op0 .nop, ill 0xEB, op2 .cpxAbs, op2 .sbcAbs, op2 .incAbs, ill 0xEF]

/-- Row Fx of the opcode map (R145). -/
def opcodeRowF : List Builder :=
  [op1 .beq, op1 .sbcIzy, ill 0xF2, ill 0xF3, ill 0xF4, op1 .sbcZpx, op1 .incZpx, ill 0xF7] ++
  [op0 .sed, op2 .sbcAby, ill 0xFA, ill 0xFB, ill 0xFC, op2 .sbcAbx, op2 .incAbx, ill 0xFF]

/-- The opcode map of R145: sixteen rows by high nibble, sixteen cells by low nibble. -/
def opcodeMap : List (List Builder) :=
  [opcodeRow0, opcodeRow1, opcodeRow2, opcodeRow3, opcodeRow4, opcodeRow5, opcodeRow6, opcodeRow7] ++
  [opcodeRow8, opcodeRow9, opcodeRowA, opcodeRowB, opcodeRowC, opcodeRowD, opcodeRowE, opcodeRowF]

/-- The instruction an opcode byte and its operand bytes stand for (R140: the opcode byte alone selects the row). An
operand byte the row does not have is not looked at. -/
def assemble (opcode lo hi : Byte) : Instr :=
  match (opcodeMap[opcode.toNat / 16]?).bind (fun row => row[opcode.toNat % 16]?) with
  | some build => build lo hi
  | none => .illegal opcode

/-- The length of an instruction, a function of its opcode byte alone (R140, R143). -/
def opcodeLength (opcode : Byte) : Nat := (assemble opcode 0 0).mode.length

/-- Why bytes hold no instruction. Every opcode byte has a row, so there are only these two. -/
inductive DecodeError where
  /-- there is no opcode byte -/
  | empty
  /-- the operand bytes the opcode asks for are not all there -/
  | truncated
deriving DecidableEq, Repr

/-- The instruction at the front of a list of bytes, and the bytes after it. -/
def decode : List Byte → Except DecodeError (Instr × List Byte)
  | [] => .error .empty
  | opcode :: rest =>
    match opcodeLength opcode, rest with
    | 1, rest => .ok (assemble opcode 0 0, rest)
    | 2, lo :: rest => .ok (assemble opcode lo 0, rest)
    | 3, lo :: hi :: rest => .ok (assemble opcode lo hi, rest)
    | _, _ => .error .truncated

/-- The bytes of an instruction: its opcode, then its operand bytes (R141). -/
def encode (i : Instr) : List Byte := i.row.opcode :: i.mode.operandBytes

/-- Byte `k` of an instruction whose bits are `w`, byte 0 the first: bits at or above `nbits` are 0. -/
def tableByte (nbits w k : Nat) : Byte := BitVec.ofNat 8 (w % 2 ^ nbits / 256 ^ k)

/-- What the decoder reads from an instruction whose bits are `w` as spec/opcode_table.json numbers them. -/
def decodeTableWord (nbits w : Nat) : Option Instr :=
  match decode [tableByte nbits w 0, tableByte nbits w 1, tableByte nbits w 2] with
  | .ok (i, _) => some i
  | .error _ => none

end Sys2Proof
end

