-- ==== Sys2Proof/Machine/State.lean ====
section
/-! DEFINITION. The state of the CORE as plain data: every piece of state of R30 to R61, the reasons a run can stop, and
the state after reset (R62, R450). -/

namespace Sys2Proof.Machine

/-- A memory: (address, value) pairs, addresses strictly rising, no entry equal to what an unlisted address reads as
(`Memory.wf`, in Memory.lean). A memory of bytes is a list of `Host.Cell`. -/
abbrev Memory (α : Type) := List (Nat × α)

/-- The CPU (R30, R31, R33, R34, R44). -/
structure Cpu where
  a               : Byte
  x               : Byte
  y               : Byte
  /-- S: an offset in page 1 (R31). -/
  sp              : Byte
  pc              : Word
  /-- `N V U B D I Z C`, bit 7 to bit 0 (R34). -/
  p               : Byte
  /-- The byte fetched at the last dispatch (R44). -/
  opcode          : Byte
  /-- Remaining CPU clocks (R45). -/
  cycles          : Nat
  /-- `abs_addr` (R44). -/
  absAddr         : Word
  /-- `rel_addr` (R44). -/
  relAddr         : Word
  pageCrossed     : Bool
  penaltyEligible : Bool
deriving DecidableEq, Repr

/-- One entry of the scanline buffer, `sl[i]`, with its pattern shifters `sp_lo[i]` and `sp_hi[i]` (R54). -/
structure SpriteUnit where
  y         : Byte
  id        : Byte
  attr      : Byte
  x         : Byte
  patLo     : Byte
  patHi     : Byte
deriving DecidableEq, Repr

/-- The eight entries of the scanline buffer (R54). -/
structure SpriteUnits where
  u0 : SpriteUnit
  u1 : SpriteUnit
  u2 : SpriteUnit
  u3 : SpriteUnit
  u4 : SpriteUnit
  u5 : SpriteUnit
  u6 : SpriteUnit
  u7 : SpriteUnit
deriving DecidableEq, Repr

/-- The PPU (R47 to R57). -/
structure Ppu where
  ctrl             : Byte
  mask             : Byte
  status           : Byte
  oamAddr          : Byte
  /-- Loopy `v` and `t`, 16 bits each (R51). -/
  v                : Word
  t                : Word
  fineX            : BitVec 3
  /-- The write toggle: false means the next write is the first (R52). -/
  w                : Bool
  dataBuffer       : Byte
  bgPatLo          : Word
  bgPatHi          : Word
  bgAttrLo         : Word
  bgAttrHi         : Word
  nextId           : Byte
  /-- Two significant bits (R53). -/
  nextAttr         : BitVec 2
  nextLo           : Byte
  nextHi           : Byte
  /-- OAM, by byte address 0 to 255 (R54). -/
  oam              : Memory Byte
  sprites          : SpriteUnits
  spriteCount      : Nat
  sprite0Possible  : Bool
  sprite0Rendering : Bool
  /-- The two nametables, by `1024 * table + offset` (R55). -/
  nt               : Memory Byte
  /-- The palette, by index 0 to 31 (R55). -/
  pal              : Memory Byte
  /-- The two pattern pages, by `4096 * page + offset` (R55). -/
  pt               : Memory Byte
  /-- -1 to 260 (R56). -/
  scanline         : Int
  /-- 0 to 340 (R56). -/
  cycle            : Nat
  frameComplete    : Bool
  nmiPending       : Bool
  /-- The frame buffer, by `256 * row + column` (R57). -/
  fb               : Memory (BitVec 32)
deriving DecidableEq, Repr

/-- The DMA engine (R58). -/
structure Dma where
  page       : Byte
  offset     : Byte
  data       : Byte
  inProgress : Bool
  waiting    : Bool
deriving DecidableEq, Repr

/-- The two controller ports: the host's button masks and the serial latches (R59). -/
structure Pads where
  input0 : Byte
  input1 : Byte
  shift0 : Byte
  shift1 : Byte
deriving DecidableEq, Repr

/-- The mirroring modes mapper 0 can have (R94). -/
inductive Mirroring where
  | horizontal
  | vertical
deriving DecidableEq, Repr

/-- The PRG bank counts mapper 0 can have (R90). -/
inductive PrgBanks where
  | one
  | two
deriving DecidableEq, Repr

/-- The CHR bank count mapper 0 can have (R92). -/
inductive ChrBanks where
  | one
deriving DecidableEq, Repr

/-- The mapper id the machine accepts (R61). -/
inductive Mapper where
  | nrom
deriving DecidableEq, Repr

/-- An inserted cartridge (R61). It never changes after insertion. The ROMs are the arrays of R61, an unlisted index
holding 0x00. -/
structure Cartridge where
  mirroring : Mirroring
  prgBanks  : PrgBanks
  chrBanks  : ChrBanks
  mapper    : Mapper
  trainer   : Bool
  prgRom    : Memory Byte
  chrRom    : Memory Byte
deriving DecidableEq, Repr

/-- The whole machine: CPU, PPU, DMA engine, bus and Console (R2). -/
structure State where
  cpu   : Cpu
  ppu   : Ppu
  dma   : Dma
  /-- RAM, by index 0 to 2047 (R59). -/
  ram   : Memory Byte
  pads  : Pads
  /-- The cartridge handle, present or absent (R60). -/
  cart  : Option Cartridge
  /-- The master-tick counter (R60). -/
  ticks : Nat
  /-- The model's own flag: the host has called `reset` since construction or the last insertion (R451; log 13). -/
  ready : Bool
deriving DecidableEq, Repr

/-- The reasons to stop with a fault: none. "The core does not itself use exceptional control flow" (R330), and
spec/93_implementation_defined.md treats no behaviour as a fault. -/
inductive Fault where
deriving DecidableEq, Repr

/-- The reasons to stop with a refusal. Only `clockBeforeReset` is raised by a step; the others are raised by host
operations. -/
inductive Refusal where
  /-- An instruction whose meaning has not been written; raised by no arm of `exec`. Safe. -/
  | notModelled (mnemonic : String)
  /-- `step`, when the host has not called `reset` since construction or the last `insert_cartridge` (R451). Safe. -/
  | clockBeforeReset
  /-- `writeController`, `clearController`, `getController`, for an index other than 0 and 1 (R358). Safe. -/
  | controllerIndex
  /-- `insertCartridge`, for a mapper id other than 0 (R61). Safe. -/
  | mapperNotSupported
  /-- `insertCartridge`, for ONESCREEN mirroring (R94). Safe. -/
  | onescreenMirroring
  /-- `insertCartridge`, for a PRG bank count other than 1 and 2 (R90). Safe. -/
  | prgBankCount
  /-- `insertCartridge`, for a CHR bank count other than 1 (R92). Safe. -/
  | chrBankCount
  /-- `insertCartridge`, for an image whose ROM arrays have not the lengths R61 gives them. Safe. -/
  | romLength
deriving DecidableEq, Repr

/-- The reset values of the CPU when the reset vector reads as `pc` (R62). -/
def Cpu.reset (pc : Word) : Cpu :=
  { a := 0, x := 0, y := 0, sp := 0xFD, pc := pc, p := 0x20, opcode := 0, cycles := 8, absAddr := 0, relAddr := 0,
    pageCrossed := false, penaltyEligible := false }

/-- A scanline buffer entry of zeros. -/
def SpriteUnit.zero : SpriteUnit := { y := 0, id := 0, attr := 0, x := 0, patLo := 0, patHi := 0 }

/-- A scanline buffer of zeros (the buffer at construction is the model's choice: log 9). -/
def SpriteUnits.zero : SpriteUnits :=
  ⟨.zero, .zero, .zero, .zero, .zero, .zero, .zero, .zero⟩

/-- The PPU at construction: the registers at the values of R62, the memories at their parameters (R451). -/
def Ppu.powerOn (position : Int × Nat) : Ppu :=
  { ctrl := 0, mask := 0, status := 0, oamAddr := 0, v := 0, t := 0, fineX := 0, w := false, dataBuffer := 0,
    bgPatLo := 0, bgPatHi := 0, bgAttrLo := 0, bgAttrHi := 0, nextId := 0, nextAttr := 0, nextLo := 0, nextHi := 0,
    oam := [], sprites := .zero, spriteCount := 0, sprite0Possible := false, sprite0Rendering := false,
    nt := [], pal := [], pt := [], scanline := position.1, cycle := position.2,
    frameComplete := false, nmiPending := false, fb := [] }

/-- The reset values of the DMA engine (R58, R62). -/
def Dma.reset : Dma := { page := 0, offset := 0, data := 0, inProgress := false, waiting := true }

/-- The reset values of the controller ports (R59, R62). -/
def Pads.reset : Pads := { input0 := 0, input1 := 0, shift0 := 0, shift1 := 0 }

/-- The machine at construction, no cartridge inserted and not yet reset (R451). With no cartridge the reset vector
reads 0x0000 (R452). -/
def State.powerOn (position : Int × Nat) : State :=
  { cpu := .reset 0, ppu := .powerOn position, dma := .reset, ram := [], pads := .reset, cart := none, ticks := 0,
    ready := false }

/-- The machine right after the host's first `reset`, no cartridge inserted (R62, R450, R452; log 2), at the default
PPU_RESET_POSITION (log 8). -/
def State.reset : State := { State.powerOn Config.ppuResetPosition with ready := true }

end Sys2Proof.Machine
end

