-- ==== Sys2Proof/Machine/Bits.lean ====
section
/-! DEFINITION. Bit fields: one bit of a byte, sign extension, the fields of the Loopy registers, byte reversal. -/

namespace Sys2Proof.Machine

/-- The byte with bit `k` written. -/
def setBit (k : Nat) (b : Bool) (x : Byte) : Byte := if b then x ||| (1#8 <<< k) else x &&& ~~~(1#8 <<< k)

/-- `sext_16` (R8). -/
def sext16 (b : Byte) : Word := if b.getLsbD 7 then b.setWidth 16 ||| 0xFF00 else b.setWidth 16

/-- `zext_16` (R8). -/
def zext16 (b : Byte) : Word := b.setWidth 16

/-! ### The Loopy registers (R51): fine_y 14-12, nametable_y 11, nametable_x 10, coarse_y 9-5, coarse_x 4-0 -/

def coarseX (v : Word) : BitVec 5 := v.extractLsb' 0 5

def coarseY (v : Word) : BitVec 5 := v.extractLsb' 5 5

def nametableX (v : Word) : Bool := v.getLsbD 10

def nametableY (v : Word) : Bool := v.getLsbD 11

def fineY (v : Word) : BitVec 3 := v.extractLsb' 12 3

def setCoarseX (c : BitVec 5) (v : Word) : Word := (v &&& 0xFFE0) ||| c.setWidth 16

def setCoarseY (c : BitVec 5) (v : Word) : Word := (v &&& 0xFC1F) ||| (c.setWidth 16 <<< 5)

def setNametableX (b : Bool) (v : Word) : Word := if b then v ||| 0x0400 else v &&& 0xFBFF

def setNametableY (b : Bool) (v : Word) : Word := if b then v ||| 0x0800 else v &&& 0xF7FF

def setFineY (f : BitVec 3) (v : Word) : Word := (v &&& 0x8FFF) ||| (f.setWidth 16 <<< 12)

/-! ### Byte reversal (R387): swap nibbles, then pairs, then bits -/

def swapNibbles (b : Byte) : Byte := ((b &&& 0xF0) >>> 4) ||| ((b &&& 0x0F) <<< 4)

def swapPairs (b : Byte) : Byte := ((b &&& 0xCC) >>> 2) ||| ((b &&& 0x33) <<< 2)

def swapBits (b : Byte) : Byte := ((b &&& 0xAA) >>> 1) ||| ((b &&& 0x55) <<< 1)

/-- `rev8` (R387). -/
def rev8 (b : Byte) : Byte := swapBits (swapPairs (swapNibbles b))

end Sys2Proof.Machine
end

