-- ==== Sys2Proof/Machine/Memory.lean ====
section
/-! DEFINITION. Memories in one canonical form: reading and writing one cell. `dflt` is what an unlisted address reads as. -/

namespace Sys2Proof.Machine

variable {α : Type}

/-- The canonical form: addresses strictly rising, no entry equal to what its address reads as when unlisted. -/
abbrev Memory.wf (dflt : Nat → α) (m : Memory α) : Prop :=
  m.Pairwise (fun p q => p.1 < q.1) ∧ ∀ p ∈ m, p.2 ≠ dflt p.1

/-- No address at or above `size` is listed. -/
abbrev Memory.below (size : Nat) (m : Memory α) : Prop := ∀ p ∈ m, p.1 < size

/-- The value at one address. -/
def Memory.read (dflt : Nat → α) : Memory α → Nat → α
  | [], a => dflt a
  | (b, w) :: m, a => if b = a then w else Memory.read dflt m a

/-- The memory with no entry for `a`. -/
def Memory.erase : Memory α → Nat → Memory α
  | [], _ => []
  | (b, w) :: m, a => if b = a then m else (b, w) :: Memory.erase m a

/-- The memory with the entry `(a, v)`, at its place in the order. -/
def Memory.insert : Memory α → Nat → α → Memory α
  | [], a, v => [(a, v)]
  | (b, w) :: m, a, v =>
    if a < b then (a, v) :: (b, w) :: m
    else if a = b then (a, v) :: m
    else (b, w) :: Memory.insert m a v

/-- Write one address. Writing what the address reads as when unlisted removes its entry. -/
def Memory.write [DecidableEq α] (dflt : Nat → α) (m : Memory α) (a : Nat) (v : α) : Memory α :=
  if v = dflt a then Memory.erase m a else Memory.insert m a v

/-- What an unlisted byte of RAM reads as: 0 (R59), and an unlisted byte of a ROM array. -/
def zeroByte : Nat → Byte := fun _ => 0

/-- The array whose elements from index `k` on are `bytes`. -/
def Memory.ofBytesFrom (k : Nat) : List Byte → Memory Byte
  | [] => []
  | b :: bytes => if b = 0 then Memory.ofBytesFrom (k + 1) bytes else (k, b) :: Memory.ofBytesFrom (k + 1) bytes

/-- A ROM array of R61 as a memory. -/
def Memory.ofBytes (bytes : List Byte) : Memory Byte := Memory.ofBytesFrom 0 bytes

end Sys2Proof.Machine
end

