-- ==== Sys2Proof/Machine/PpuMemory.lean ====
section
/-! DEFINITION. The PPU's 14-bit address space (R120 to R123) and OAM (R124). Below, `cart` is the cartridge handle and an
address that has been masked to 14 bits is a `Nat`. -/

namespace Sys2Proof.Machine

/-- The CHR ROM byte at `a` (R92: `CHR_ROM[addr]`). -/
def Cartridge.chrByte (c : Cartridge) (a : Nat) : Byte := c.chrRom.read zeroByte a

/-- `cart_ppu_read` (R92): the cartridge's byte, where it claims the address. DESIGN CHOICE, unsafe (log 21): with no
cartridge inserted nothing is claimed, which R120 does not say. -/
def cartPpuRead (cart : Option Cartridge) (a : Nat) : Option Byte :=
  match cart with
  | some c => if a ≤ 0x1FFF then some (c.chrByte a) else none
  | none => none

/-- `ntmap` (R122): the nametable of an address, by the quadrant in its bits 11 and 10. With no cartridge inserted the
spec gives no map: a free one (log 10). -/
def nametableOf (cart : Option Cartridge) (a : Nat) : Nat :=
  let q := a % 0x1000 / 0x400
  match cart with
  | some c =>
    match c.mirroring with
    | .vertical => [0, 1, 0, 1].getD q 0
    | .horizontal => [0, 0, 1, 1].getD q 0
  | none => (Config.noCartridgeNametable (BitVec.ofNat 2 q)).toNat

/-- The key of a nametable address in `Ppu.nt`. -/
def nametableKey (cart : Option Cartridge) (a : Nat) : Nat := 0x400 * nametableOf cart a + a % 0x400

/-- `palidx` (R123). -/
def paletteIndex (a : Nat) : Nat :=
  let i := a % 0x20
  if i = 0x10 ∨ i = 0x14 ∨ i = 0x18 ∨ i = 0x1C then i - 0x10 else i

/-- One OAM byte (R54). -/
def Ppu.oamByte (p : Ppu) (a : Byte) : Byte := p.oam.read Config.oamInit a.toNat

/-- Write one OAM byte (R54). -/
def Ppu.setOamByte (a : Byte) (d : Byte) (p : Ppu) : Ppu :=
  { p with oam := p.oam.write Config.oamInit a.toNat d }

/-- `PpuRead` (R120). With no cartridge inserted a read below 0x2000 so reaches the internal pattern pages (log 21). -/
def ppuRead (cart : Option Cartridge) (p : Ppu) (addr : Word) : Byte :=
  let a := addr.toNat % 0x4000
  match cartPpuRead cart a with
  | some b => b
  | none =>
    if a ≤ 0x1FFF then p.pt.read Config.patternInit a
    else if a ≤ 0x3EFF then p.nt.read Config.vramInit (nametableKey cart a)
    else p.pal.read Config.paletteInit (paletteIndex a)

/-- `PpuWrite` (R120). Mapper 0 claims no write (R93), so a write below 0x2000 goes to the PPU's own pattern pages,
with no cartridge inserted too (log 21). -/
def ppuWrite (cart : Option Cartridge) (addr : Word) (d : Byte) (p : Ppu) : Ppu :=
  let a := addr.toNat % 0x4000
  if a ≤ 0x1FFF then { p with pt := p.pt.write Config.patternInit a d }
  else if a ≤ 0x3EFF then { p with nt := p.nt.write Config.vramInit (nametableKey cart a) d }
  else { p with pal := p.pal.write Config.paletteInit (paletteIndex a) d }

end Sys2Proof.Machine
end

