-- ==== Sys2Proof/Machine/PpuRegs.lean ====
section
/-! DEFINITION. The fields of the PPU's registers (R48 to R50) and the CPU-visible register window (R360 to R371). -/

namespace Sys2Proof.Machine

/-! ### CTRL (R48) -/

/-- INCREMENT_MODE, bit 2. -/
def Ppu.incrementMode (p : Ppu) : Bool := p.ctrl.getLsbD 2

/-- PATTERN_SPRITE, bit 3. -/
def Ppu.patternSprite (p : Ppu) : Bool := p.ctrl.getLsbD 3

/-- PATTERN_BG, bit 4. -/
def Ppu.patternBg (p : Ppu) : Bool := p.ctrl.getLsbD 4

/-- SPRITE_SIZE, bit 5. -/
def Ppu.spriteSize (p : Ppu) : Bool := p.ctrl.getLsbD 5

/-- ENABLE_NMI, bit 7. -/
def Ppu.enableNmi (p : Ppu) : Bool := p.ctrl.getLsbD 7

/-! ### MASK (R49) -/

/-- RENDER_BACKGROUND_LEFT, bit 1. -/
def Ppu.renderBackgroundLeft (p : Ppu) : Bool := p.mask.getLsbD 1

/-- RENDER_SPRITES_LEFT, bit 2. -/
def Ppu.renderSpritesLeft (p : Ppu) : Bool := p.mask.getLsbD 2

/-- RENDER_BACKGROUND, bit 3. -/
def Ppu.renderBackground (p : Ppu) : Bool := p.mask.getLsbD 3

/-- RENDER_SPRITES, bit 4. -/
def Ppu.renderSprites (p : Ppu) : Bool := p.mask.getLsbD 4

/-- "Rendering enabled" (R49). -/
def Ppu.renderingEnabled (p : Ppu) : Bool := p.renderBackground || p.renderSprites

/-! ### STATUS (R50) -/

/-- VERTICAL_BLANK, bit 7. -/
def Ppu.verticalBlank (p : Ppu) : Bool := p.status.getLsbD 7

/-- SPRITE_ZERO_HIT, bit 6. -/
def Ppu.spriteZeroHit (p : Ppu) : Bool := p.status.getLsbD 6

/-- SPRITE_OVERFLOW, bit 5. -/
def Ppu.spriteOverflow (p : Ppu) : Bool := p.status.getLsbD 5

def Ppu.setVerticalBlank (b : Bool) (p : Ppu) : Ppu := { p with status := setBit 7 b p.status }

def Ppu.setSpriteZeroHit (b : Bool) (p : Ppu) : Ppu := { p with status := setBit 6 b p.status }

def Ppu.setSpriteOverflow (b : Bool) (p : Ppu) : Ppu := { p with status := setBit 5 b p.status }

/-! ### Writes -/

/-- CTRL write (R361). -/
def ctrlWrite (d : Byte) (p : Ppu) : Ppu :=
  { p with ctrl := d, t := setNametableY (d.getLsbD 1) (setNametableX (d.getLsbD 0) p.t) }

/-- MASK write (R362). -/
def maskWrite (d : Byte) (p : Ppu) : Ppu := { p with mask := d }

/-- OAMADDR write (R367). -/
def oamAddrWrite (d : Byte) (p : Ppu) : Ppu := { p with oamAddr := d }

/-- OAMDATA write (R368). -/
def oamDataWrite (d : Byte) (p : Ppu) : Ppu := p.setOamByte p.oamAddr d

/-- PPUSCROLL write (R369). -/
def ppuScrollWrite (d : Byte) (p : Ppu) : Ppu :=
  if p.w then
    { p with t := setCoarseY (d.extractLsb' 3 5) (setFineY (d.extractLsb' 0 3) p.t), w := false }
  else
    { p with fineX := d.extractLsb' 0 3, t := setCoarseX (d.extractLsb' 3 5) p.t, w := true }

/-- PPUADDR write (R363). -/
def ppuAddrWrite (d : Byte) (p : Ppu) : Ppu :=
  if p.w then
    let t := (p.t &&& 0xFF00) ||| d.setWidth 16
    { p with t := t, v := t, w := false }
  else
    { p with t := ((d &&& 0x3F).setWidth 16 <<< 8) ||| (p.t &&& 0x00FF), w := true }

/-- `inc` (R360): what a PPUDATA access adds to v. -/
def Ppu.increment (p : Ppu) : Word := if p.incrementMode then 32 else 1

/-- v after a PPUDATA access (R364, R365: modulo 2^16). -/
def Ppu.advanceV (p : Ppu) : Ppu := { p with v := p.v + p.increment }

/-- PPUDATA write (R365). -/
def ppuDataWrite (cart : Option Cartridge) (d : Byte) (p : Ppu) : Ppu := (ppuWrite cart p.v d p).advanceV

/-- `ppu_reg_write` (R84, R360). STATUS ignores writes (R371). -/
def ppuRegWrite (cart : Option Cartridge) (r : BitVec 3) (d : Byte) (p : Ppu) : Ppu :=
  match r.toNat with
  | 0 => ctrlWrite d p
  | 1 => maskWrite d p
  | 2 => p
  | 3 => oamAddrWrite d p
  | 4 => oamDataWrite d p
  | 5 => ppuScrollWrite d p
  | 6 => ppuAddrWrite d p
  | _ => ppuDataWrite cart d p

/-! ### Reads -/

/-- The value a STATUS read returns (R366). -/
def Ppu.statusValue (p : Ppu) : Byte := (p.status &&& 0xE0) ||| (p.dataBuffer &&& 0x1F)

/-- What a STATUS read changes (R366). -/
def statusReadEffect (p : Ppu) : Ppu := { p.setVerticalBlank false with w := false }

/-- The value a PPUDATA read returns (R364): the buffer, or the byte itself at a palette address. -/
def ppuDataValue (cart : Option Cartridge) (p : Ppu) : Byte :=
  if p.v.toNat % 0x4000 ≥ 0x3F00 then ppuRead cart p p.v else p.dataBuffer

/-- What a PPUDATA read changes (R364). -/
def ppuDataReadEffect (cart : Option Cartridge) (p : Ppu) : Ppu :=
  ({ p with dataBuffer := ppuRead cart p p.v }).advanceV

/-- The value `ppu_reg_read` returns (R84, R360). Write-only registers read 0x00 (R370). -/
def ppuRegValue (cart : Option Cartridge) (r : BitVec 3) (p : Ppu) : Byte :=
  match r.toNat with
  | 2 => p.statusValue
  | 4 => p.oamByte p.oamAddr
  | 7 => ppuDataValue cart p
  | _ => 0

/-- What `ppu_reg_read` changes (R84, R360). -/
def ppuRegReadEffect (cart : Option Cartridge) (r : BitVec 3) (p : Ppu) : Ppu :=
  match r.toNat with
  | 2 => statusReadEffect p
  | 7 => ppuDataReadEffect cart p
  | _ => p

end Sys2Proof.Machine
end

