-- ==== Sys2Proof/Machine/Bus.lean ====
section
/-! DEFINITION. The CPU bus: the address decode of R81 and R82, the cartridge's CPU side (R90, R91), the DMA trigger
(R350) and the controller ports (R356, R357). -/

namespace Sys2Proof.Machine

/-! ### RAM -/

/-- The byte of RAM an address below 0x2000 selects: its low 11 bits (R83). -/
def State.ramByte (a : Word) (s : State) : Byte := s.ram.read zeroByte (a.toNat % 0x800)

/-- Write the byte of RAM an address below 0x2000 selects (R83). -/
def State.setRamByte (a : Word) (d : Byte) (s : State) : State :=
  { s with ram := s.ram.write zeroByte (a.toNat % 0x800) d }

/-! ### The cartridge -/

/-- The size of PRG ROM in bytes (R61). -/
def PrgBanks.bytes : PrgBanks → Nat
  | .one => 0x4000
  | .two => 0x8000

/-- The size of CHR ROM in bytes (R61). -/
def ChrBanks.bytes : ChrBanks → Nat
  | .one => 0x2000

/-- The PRG ROM byte an address from 0x8000 on selects (R90). -/
def Cartridge.prgByte (c : Cartridge) (a : Word) : Byte := c.prgRom.read zeroByte (a.toNat % c.prgBanks.bytes)

/-- `cart_cpu_read` (R90): the cartridge's byte, where it claims the address. With no cartridge nothing is claimed
(R89). -/
def cartCpuRead (cart : Option Cartridge) (a : Word) : Option Byte :=
  match cart with
  | some c => if a.toNat ≥ 0x8000 then some (c.prgByte a) else none
  | none => none

/-! ### The controller ports; `port` is bit 0 of the address (R86) -/

def Pads.input (port : Bool) (q : Pads) : Byte := if port then q.input1 else q.input0

def Pads.shift (port : Bool) (q : Pads) : Byte := if port then q.shift1 else q.shift0

def Pads.setInput (port : Bool) (d : Byte) (q : Pads) : Pads :=
  if port then { q with input1 := d } else { q with input0 := d }

def Pads.setShift (port : Bool) (d : Byte) (q : Pads) : Pads :=
  if port then { q with shift1 := d } else { q with shift0 := d }

/-- `pad_strobe` (R356). -/
def padStrobe (port : Bool) (q : Pads) : Pads := q.setShift port (q.input port)

/-- The value `pad_read` returns (R357). -/
def padValue (port : Bool) (q : Pads) : Byte := if (q.shift port).getLsbD 7 then 0x01 else 0x00

/-- What `pad_read` changes (R357). -/
def padReadEffect (port : Bool) (q : Pads) : Pads := q.setShift port (q.shift port <<< 1)

/-! ### The DMA trigger -/

/-- `dma_start` (R350). -/
def dmaStart (d : Byte) (e : Dma) : Dma := { e with page := d, offset := 0, inProgress := true, waiting := true }

/-! ### The decode -/

/-- The PPU register of an address (R84: the low 3 bits). -/
def ppuReg (a : Word) : BitVec 3 := a.extractLsb' 0 3

/-- `cpu_read(addr, read_only)` (R81, R88), first match wins. -/
def cpuRead (readOnly : Bool) (a : Word) (s : State) : Byte × State :=
  match cartCpuRead s.cart a with
  | some b => (b, s)
  | none =>
    if a.toNat ≤ 0x1FFF then (s.ramByte a, s)
    else if a.toNat ≤ 0x3FFF then
      (ppuRegValue s.cart (ppuReg a) s.ppu,
        if readOnly then s else { s with ppu := ppuRegReadEffect s.cart (ppuReg a) s.ppu })
    else if a = 0x4016 ∨ a = 0x4017 then
      (padValue (a.getLsbD 0) s.pads, { s with pads := padReadEffect (a.getLsbD 0) s.pads })
    else (0, s)

/-- `MemRead` (R81): a read with its side effects. -/
def memRead (a : Word) (s : State) : Byte × State := cpuRead false a s

/-- `MemWrite` (R82). Mapper 0 claims no CPU write (R91). -/
def memWrite (a : Word) (d : Byte) (s : State) : State :=
  if a.toNat ≤ 0x1FFF then s.setRamByte a d
  else if a.toNat ≤ 0x3FFF then { s with ppu := ppuRegWrite s.cart (ppuReg a) d s.ppu }
  else if a = 0x4014 then { s with dma := dmaStart d s.dma }
  else if a = 0x4016 ∨ a = 0x4017 then { s with pads := padStrobe (a.getLsbD 0) s.pads }
  else s

/-- `MemRead16` (R9): the low byte is read first. -/
def memRead16 (lo hi : Word) (s : State) : Word × State :=
  let l := memRead lo s
  let h := memRead hi l.2
  (wordOf l.1 h.1, h.2)

end Sys2Proof.Machine
end

