-- ==== Sys2Proof/Machine/Flags.lean ====
section
/-! DEFINITION. The status byte P (R34) and every flag computation: Z and N (R9), the 8-bit add (R230), the compare (R280),
BIT (R253), the shifts and rotates (R261 to R264). -/

namespace Sys2Proof.Machine

/-- The bits of P (R34). -/
inductive Flag where
  | c | z | i | d | b | u | v | n
deriving DecidableEq, Repr

/-- The place of a flag in P (R34). -/
def Flag.bit : Flag → Nat
  | .c => 0 | .z => 1 | .i => 2 | .d => 3 | .b => 4 | .u => 5 | .v => 6 | .n => 7

/-- Read a flag of a status byte. -/
def getFlag (f : Flag) (p : Byte) : Bool := p.getLsbD f.bit

/-- The status byte with one flag written. -/
def setFlag (f : Flag) (b : Bool) (p : Byte) : Byte := setBit f.bit b p

/-- `setZN` (R9): Z from whether the value is zero, N from its bit 7. -/
def setZN (r : Byte) (p : Byte) : Byte := setFlag .n (r.getLsbD 7) (setFlag .z (r == 0) p)

/-- The exact sum `t` of `add8` (R230), 0 to 0x1FF. -/
def addSum (a m : Byte) (c : Bool) : Nat := a.toNat + m.toNat + c.toNat

/-- The byte `add8` writes to A (R230). -/
def addResult (a m : Byte) (c : Bool) : Byte := BitVec.ofNat 8 (addSum a m c)

/-- The status byte after `add8` (R230). -/
def addFlags (a m p : Byte) : Byte :=
  let t := addSum a m (getFlag .c p)
  let r := addResult a m (getFlag .c p)
  setFlag .v ((~~~(a ^^^ m) &&& (a ^^^ r)).getLsbD 7) (setZN r (setFlag .c (0xFF < t) p))

/-- The status byte after `compare` (R280): C is R >= M, Z and N are of the low byte of R - M in 16 bits. -/
def compareFlags (r m p : Byte) : Byte :=
  let d : Word := zext16 r - zext16 m
  setZN (d.extractLsb' 0 8) (setFlag .c (decide (m.toNat ≤ r.toNat)) p)

/-- The status byte after BIT (R253). -/
def bitFlags (a m p : Byte) : Byte :=
  setFlag .v (m.getLsbD 6) (setFlag .n (m.getLsbD 7) (setFlag .z (a &&& m == 0) p))

/-- ASL (R261): the result, and the bit shifted out. -/
def aslByte (m : Byte) : Byte × Bool := (m <<< 1, m.getLsbD 7)

/-- LSR (R262). -/
def lsrByte (m : Byte) : Byte × Bool := (m >>> 1, m.getLsbD 0)

/-- ROL (R263): the old carry enters bit 0. -/
def rolByte (c : Bool) (m : Byte) : Byte × Bool := (setBit 0 c (m <<< 1), m.getLsbD 7)

/-- ROR (R264): the old carry enters bit 7. -/
def rorByte (c : Bool) (m : Byte) : Byte × Bool := (setBit 7 c (m >>> 1), m.getLsbD 0)

/-- The status byte after a shift or rotate: C from the bit that left, Z and N from the result (R261 to R264). -/
def shiftFlags (r : Byte × Bool) (p : Byte) : Byte := setZN r.1 (setFlag .c r.2 p)

end Sys2Proof.Machine
end

