-- ==== Sys2Proof/Machine/Ops.lean ====
section
/-! DEFINITION. The named operations over the CPU's registers, the stack, and taking and leaving an interrupt. -/

namespace Sys2Proof.Machine

/-! ### Register writes (R30, R31, R33, R34, R44) -/

def State.setA (d : Byte) (s : State) : State := { s with cpu := { s.cpu with a := d } }

def State.setX (d : Byte) (s : State) : State := { s with cpu := { s.cpu with x := d } }

def State.setY (d : Byte) (s : State) : State := { s with cpu := { s.cpu with y := d } }

def State.setSp (d : Byte) (s : State) : State := { s with cpu := { s.cpu with sp := d } }

def State.setPc (w : Word) (s : State) : State := { s with cpu := { s.cpu with pc := w } }

def State.setP (d : Byte) (s : State) : State := { s with cpu := { s.cpu with p := d } }

def State.setOpcode (d : Byte) (s : State) : State := { s with cpu := { s.cpu with opcode := d } }

def State.setCycles (n : Nat) (s : State) : State := { s with cpu := { s.cpu with cycles := n } }

def State.setAbsAddr (w : Word) (s : State) : State := { s with cpu := { s.cpu with absAddr := w } }

def State.setRelAddr (w : Word) (s : State) : State := { s with cpu := { s.cpu with relAddr := w } }

def State.setPageCrossed (b : Bool) (s : State) : State := { s with cpu := { s.cpu with pageCrossed := b } }

def State.setPenaltyEligible (b : Bool) (s : State) : State :=
  { s with cpu := { s.cpu with penaltyEligible := b } }

/-- Write one flag of P. -/
def State.setFlag (f : Flag) (b : Bool) (s : State) : State := s.setP (Machine.setFlag f b s.cpu.p)

/-- Read one flag of P. -/
def State.flag (f : Flag) (s : State) : Bool := getFlag f s.cpu.p

/-! ### The stack (R31, R32) -/

/-- The address S selects: `0x0100 | S` (R31). -/
def stackAddr (sp : Byte) : Word := wordOf sp 0x01

/-- `push` (R32). -/
def push (d : Byte) (s : State) : State := (memWrite (stackAddr s.cpu.sp) d s).setSp (s.cpu.sp - 1)

/-- `pop` (R32). -/
def pop (s : State) : Byte × State :=
  let s := s.setSp (s.cpu.sp + 1)
  memRead (stackAddr s.cpu.sp) s

/-- Push a 16-bit value, high byte first (R97). -/
def pushWord (w : Word) (s : State) : State := push (loByte w) (push (hiByte w) s)

/-- Pop a 16-bit value, low byte first (R292, R294). -/
def popWord (s : State) : Word × State :=
  let l := pop s
  let h := pop l.2
  (wordOf l.1 h.1, h.2)

/-! ### Interrupts (R331, R335, R293, R294) -/

/-- The NMI vector (R96). -/
def nmiVector : Word := 0xFFFA

/-- The reset vector (R96). -/
def resetVector : Word := 0xFFFC

/-- The BRK vector (R96). -/
def brkVector : Word := 0xFFFE

/-- What the NMI and BRK entries share (R335): push PC high, PC low and a status byte, write P, load PC from a
vector, low byte first. -/
def takeInterrupt (pushed entry : Byte) (vector : Word) (s : State) : State :=
  let s := (push pushed (pushWord s.cpu.pc s)).setP entry
  let r := memRead16 vector (vector + 1) s
  r.2.setPc r.1

/-- The status byte NMI writes to P and then pushes: B = 0, U = 1, I = 1 (R331). -/
def nmiStatus (p : Byte) : Byte := setFlag .i true (setFlag .u true (setFlag .b false p))

/-- `cpu_nmi` (R331). -/
def cpuNmi (s : State) : State :=
  (takeInterrupt (nmiStatus s.cpu.p) (nmiStatus s.cpu.p) nmiVector s).setCycles 8

/-- The status byte BRK pushes: B = 1 (R293). -/
def brkPushed (p : Byte) : Byte := setFlag .b true p

/-- The status byte BRK leaves in P: B cleared again, then I set (R293). -/
def brkStatus (p : Byte) : Byte := setFlag .i true (setFlag .b false (brkPushed p))

/-- BRK's entry (R293): past the padding byte, then the shared entry. -/
def takeBreak (s : State) : State :=
  let s := s.setPc (s.cpu.pc + 1)
  takeInterrupt (brkPushed s.cpu.p) (brkStatus s.cpu.p) brkVector s

/-- RTI (R294): P with B and U cleared, then PC low, then PC high. -/
def returnFromInterrupt (s : State) : State :=
  let r := pop s
  let w := popWord (r.2.setP (setFlag .u false (setFlag .b false r.1)))
  w.2.setPc w.1

end Sys2Proof.Machine
end

