-- ==== Sys2Proof/Machine/Operands.lean ====
section
/-! DEFINITION. Addressing modes (R180 to R192), operand access (R174, R175), the branch procedure (R270), and what the
dispatch clock does around an instruction's operation (R170). The operand bytes of an instruction are already read, in
their order, when its meaning runs (log 3). -/

namespace Sys2Proof.Machine

/-- Whether an indexed address left its base's page (R187, R188, R191). -/
def crossesPage (base addr : Word) : Bool := hiByte addr != hiByte base

/-- ABX and ABY (R187, R188): base plus index. -/
def resolveIndexed (base : Word) (index : Byte) (s : State) : State :=
  let addr := base + zext16 index
  (s.setAbsAddr addr).setPageCrossed (crossesPage base addr)

/-- IND (R189): the target is read through a pointer whose high byte is fetched in the pointer's own page. -/
def resolveIndirect (ptr : Word) (s : State) : State :=
  let r := memRead16 ptr (wordOf (loByte ptr + 1) (hiByte ptr)) s
  r.2.setAbsAddr r.1

/-- The pointer in zero page at `zp`, its high byte at the next zero-page address (R190, R191). -/
def zeroPagePointer (zp : Byte) (s : State) : Word × State := memRead16 (zext16 zp) (zext16 (zp + 1)) s

/-- IZX (R190). -/
def resolveIndexedIndirect (zp : Byte) (s : State) : State :=
  let r := zeroPagePointer (zp + s.cpu.x) s
  r.2.setAbsAddr r.1

/-- IZY (R191). -/
def resolveIndirectIndexed (zp : Byte) (s : State) : State :=
  let r := zeroPagePointer zp s
  resolveIndexed r.1 r.2.cpu.y r.2

/-- The resolver of a mode (R180 to R192). It runs with PC past the whole instruction, so an immediate byte's address is
PC - 1 (R182). IMP and ACC have none (R180, R181). -/
def resolve : Mode → State → State
  | .imp, s => s
  | .acc, s => s
  | .imm _, s => s.setAbsAddr (s.cpu.pc - 1)
  | .zp0 zp, s => s.setAbsAddr (zext16 zp)
  | .zpx zp, s => s.setAbsAddr (zext16 (zp + s.cpu.x))
  | .zpy zp, s => s.setAbsAddr (zext16 (zp + s.cpu.y))
  | .abs addr, s => s.setAbsAddr addr
  | .abx base, s => resolveIndexed base s.cpu.x s
  | .aby base, s => resolveIndexed base s.cpu.y s
  | .ind ptr, s => resolveIndirect ptr s
  | .izx zp, s => resolveIndexedIndirect zp s
  | .izy zp, s => resolveIndirectIndexed zp s
  | .rel offset, s => s.setRelAddr (sext16 offset)

/-- `operand()` (R174): A in ACC, the immediate byte in IMM (its one read was the fetch; log 3), else one read of
`abs_addr`. -/
def operand (m : Mode) (s : State) : Byte × State :=
  match m with
  | .acc => (s.cpu.a, s)
  | .imm value => (value, s)
  | _ => memRead s.cpu.absAddr s

/-- `writeback(r)` (R175): to A in ACC, else one write of `abs_addr`. -/
def writeback (m : Mode) (r : Byte) (s : State) : State :=
  match m with
  | .acc => s.setA r
  | _ => memWrite s.cpu.absAddr r s

/-- `branch(cond)` (R270). PC is the address after the branch. -/
def branch (taken : Bool) (s : State) : State :=
  if taken then
    let target := s.cpu.pc + s.cpu.relAddr
    let extra := if crossesPage s.cpu.pc target then 2 else 1
    (s.setCycles (s.cpu.cycles + extra)).setPc target
  else s

/-- The dispatch clock up to the resolver (R170): the opcode register, PC past the instruction, U set, the base count,
both per-instruction flags cleared. -/
def beginInstr (i : Instr) (s : State) : State :=
  { s with cpu := { s.cpu with
      opcode := i.row.opcode, pc := s.cpu.pc + BitVec.ofNat 16 i.mode.length, p := setFlag .u true s.cpu.p,
      cycles := i.row.baseCycles, pageCrossed := false, penaltyEligible := false } }

/-- The dispatch clock after the operation (R170, R176): the page penalty, and U set again. -/
def finishInstr (s : State) : State :=
  (if s.cpu.pageCrossed && s.cpu.penaltyEligible then s.setCycles (s.cpu.cycles + 1) else s).setFlag .u true

/-- An instruction ready for its operation: begun, and its address resolved (R170). -/
def prepare (i : Instr) (s : State) : State := resolve i.mode (beginInstr i s)

/-- The dispatch clock of one instruction around its operation (R170), but for the opcode and operand fetches before it
and the count-down after it. -/
def runInstr (i : Instr) (op : Mode → State → State) (s : State) : Host.Outcome State Fault Refusal :=
  .next (finishInstr (op i.mode (prepare i s)))

end Sys2Proof.Machine
end

