-- ==== Sys2Proof/Machine/Arith.lean ====
section
/-! DEFINITION. Arithmetic (R230 to R238). P.D is not consulted (R230). -/

namespace Sys2Proof.Machine

/-- `add8` (R230), by ADC and SBC. -/
def add8 (m : Byte) (s : State) : State :=
  (s.setA (addResult s.cpu.a m (s.flag .c))).setP (addFlags s.cpu.a m s.cpu.p)

/-- ADC (R231). -/
def opAdc (m : Mode) (s : State) : State :=
  let r := operand m s
  (add8 r.1 r.2).setPenaltyEligible true

/-- SBC (R232): the add of the inverted operand. -/
def opSbc (m : Mode) (s : State) : State :=
  let r := operand m s
  (add8 (r.1 ^^^ 0xFF) r.2).setPenaltyEligible true

/-- A read, a write of the new value, and Z and N of it: INC (R233) and DEC (R236). -/
def modify (f : Byte → Byte) (m : Mode) (s : State) : State :=
  let r := operand m s
  let t := writeback m (f r.1) r.2
  t.setP (setZN (f r.1) t.cpu.p)

/-- INC (R233). -/
def opInc (m : Mode) (s : State) : State := modify (· + 1) m s

/-- INX (R234). -/
def opInx (_ : Mode) (s : State) : State := (s.setX (s.cpu.x + 1)).setP (setZN (s.cpu.x + 1) s.cpu.p)

/-- INY (R235). -/
def opIny (_ : Mode) (s : State) : State := (s.setY (s.cpu.y + 1)).setP (setZN (s.cpu.y + 1) s.cpu.p)

/-- DEC (R236). -/
def opDec (m : Mode) (s : State) : State := modify (· - 1) m s

/-- DEX (R237). -/
def opDex (_ : Mode) (s : State) : State := (s.setX (s.cpu.x - 1)).setP (setZN (s.cpu.x - 1) s.cpu.p)

/-- DEY (R238). -/
def opDey (_ : Mode) (s : State) : State := (s.setY (s.cpu.y - 1)).setP (setZN (s.cpu.y - 1) s.cpu.p)

/-! ### The forms -/

/-- ADC #$nn (R231). -/
def execAdcImm (value : Byte) (s : State) : Host.Outcome State Fault Refusal :=
  runInstr (.adcImm value) opAdc s

/-- ADC $nn (R231). -/
def execAdcZp0 (zp : Byte) (s : State) : Host.Outcome State Fault Refusal :=
  runInstr (.adcZp0 zp) opAdc s

/-- ADC $nn,X (R231). -/
def execAdcZpx (zp : Byte) (s : State) : Host.Outcome State Fault Refusal :=
  runInstr (.adcZpx zp) opAdc s

/-- ADC $hhll (R231). -/
def execAdcAbs (addr : Word) (s : State) : Host.Outcome State Fault Refusal :=
  runInstr (.adcAbs addr) opAdc s

/-- ADC $hhll,X (R231). -/
def execAdcAbx (base : Word) (s : State) : Host.Outcome State Fault Refusal :=
  runInstr (.adcAbx base) opAdc s

/-- ADC $hhll,Y (R231). -/
def execAdcAby (base : Word) (s : State) : Host.Outcome State Fault Refusal :=
  runInstr (.adcAby base) opAdc s

/-- ADC ($nn,X) (R231). -/
def execAdcIzx (zp : Byte) (s : State) : Host.Outcome State Fault Refusal :=
  runInstr (.adcIzx zp) opAdc s

/-- ADC ($nn),Y (R231). -/
def execAdcIzy (zp : Byte) (s : State) : Host.Outcome State Fault Refusal :=
  runInstr (.adcIzy zp) opAdc s

/-- SBC #$nn (R232). -/
def execSbcImm (value : Byte) (s : State) : Host.Outcome State Fault Refusal :=
  runInstr (.sbcImm value) opSbc s

/-- SBC $nn (R232). -/
def execSbcZp0 (zp : Byte) (s : State) : Host.Outcome State Fault Refusal :=
  runInstr (.sbcZp0 zp) opSbc s

/-- SBC $nn,X (R232). -/
def execSbcZpx (zp : Byte) (s : State) : Host.Outcome State Fault Refusal :=
  runInstr (.sbcZpx zp) opSbc s

/-- SBC $hhll (R232). -/
def execSbcAbs (addr : Word) (s : State) : Host.Outcome State Fault Refusal :=
  runInstr (.sbcAbs addr) opSbc s

/-- SBC $hhll,X (R232). -/
def execSbcAbx (base : Word) (s : State) : Host.Outcome State Fault Refusal :=
  runInstr (.sbcAbx base) opSbc s

/-- SBC $hhll,Y (R232). -/
def execSbcAby (base : Word) (s : State) : Host.Outcome State Fault Refusal :=
  runInstr (.sbcAby base) opSbc s

/-- SBC ($nn,X) (R232). -/
def execSbcIzx (zp : Byte) (s : State) : Host.Outcome State Fault Refusal :=
  runInstr (.sbcIzx zp) opSbc s

/-- SBC ($nn),Y (R232). -/
def execSbcIzy (zp : Byte) (s : State) : Host.Outcome State Fault Refusal :=
  runInstr (.sbcIzy zp) opSbc s

/-- INC $nn (R233). -/
def execIncZp0 (zp : Byte) (s : State) : Host.Outcome State Fault Refusal :=
  runInstr (.incZp0 zp) opInc s

/-- INC $nn,X (R233). -/
def execIncZpx (zp : Byte) (s : State) : Host.Outcome State Fault Refusal :=
  runInstr (.incZpx zp) opInc s

/-- INC $hhll (R233). -/
def execIncAbs (addr : Word) (s : State) : Host.Outcome State Fault Refusal :=
  runInstr (.incAbs addr) opInc s

/-- INC $hhll,X (R233). -/
def execIncAbx (base : Word) (s : State) : Host.Outcome State Fault Refusal :=
  runInstr (.incAbx base) opInc s

/-- INX (R234). -/
def execInx (s : State) : Host.Outcome State Fault Refusal :=
  runInstr .inx opInx s

/-- INY (R235). -/
def execIny (s : State) : Host.Outcome State Fault Refusal :=
  runInstr .iny opIny s

/-- DEC $nn (R236). -/
def execDecZp0 (zp : Byte) (s : State) : Host.Outcome State Fault Refusal :=
  runInstr (.decZp0 zp) opDec s

/-- DEC $nn,X (R236). -/
def execDecZpx (zp : Byte) (s : State) : Host.Outcome State Fault Refusal :=
  runInstr (.decZpx zp) opDec s

/-- DEC $hhll (R236). -/
def execDecAbs (addr : Word) (s : State) : Host.Outcome State Fault Refusal :=
  runInstr (.decAbs addr) opDec s

/-- DEC $hhll,X (R236). -/
def execDecAbx (base : Word) (s : State) : Host.Outcome State Fault Refusal :=
  runInstr (.decAbx base) opDec s

/-- DEX (R237). -/
def execDex (s : State) : Host.Outcome State Fault Refusal :=
  runInstr .dex opDex s

/-- DEY (R238). -/
def execDey (s : State) : Host.Outcome State Fault Refusal :=
  runInstr .dey opDey s

end Sys2Proof.Machine
end

