-- ==== Sys2Proof/Machine/Branch.lean ====
section
/-! DEFINITION. Conditional branches (R270 to R278): the flag and the value each one tests. -/

namespace Sys2Proof.Machine

/-- BCC (R271). -/
def opBcc (_ : Mode) (s : State) : State := branch (!s.flag .c) s

/-- BCS (R272). -/
def opBcs (_ : Mode) (s : State) : State := branch (s.flag .c) s

/-- BEQ (R273). -/
def opBeq (_ : Mode) (s : State) : State := branch (s.flag .z) s

/-- BMI (R274). -/
def opBmi (_ : Mode) (s : State) : State := branch (s.flag .n) s

/-- BNE (R275). -/
def opBne (_ : Mode) (s : State) : State := branch (!s.flag .z) s

/-- BPL (R276). -/
def opBpl (_ : Mode) (s : State) : State := branch (!s.flag .n) s

/-- BVC (R277). -/
def opBvc (_ : Mode) (s : State) : State := branch (!s.flag .v) s

/-- BVS (R278). -/
def opBvs (_ : Mode) (s : State) : State := branch (s.flag .v) s

/-! ### The forms -/

/-- BCC label (R271). -/
def execBcc (offset : Byte) (s : State) : Host.Outcome State Fault Refusal :=
  runInstr (.bcc offset) opBcc s

/-- BCS label (R272). -/
def execBcs (offset : Byte) (s : State) : Host.Outcome State Fault Refusal :=
  runInstr (.bcs offset) opBcs s

/-- BEQ label (R273). -/
def execBeq (offset : Byte) (s : State) : Host.Outcome State Fault Refusal :=
  runInstr (.beq offset) opBeq s

/-- BMI label (R274). -/
def execBmi (offset : Byte) (s : State) : Host.Outcome State Fault Refusal :=
  runInstr (.bmi offset) opBmi s

/-- BNE label (R275). -/
def execBne (offset : Byte) (s : State) : Host.Outcome State Fault Refusal :=
  runInstr (.bne offset) opBne s

/-- BPL label (R276). -/
def execBpl (offset : Byte) (s : State) : Host.Outcome State Fault Refusal :=
  runInstr (.bpl offset) opBpl s

/-- BVC label (R277). -/
def execBvc (offset : Byte) (s : State) : Host.Outcome State Fault Refusal :=
  runInstr (.bvc offset) opBvc s

/-- BVS label (R278). -/
def execBvs (offset : Byte) (s : State) : Host.Outcome State Fault Refusal :=
  runInstr (.bvs offset) opBvs s

end Sys2Proof.Machine
end

