-- ==== Sys2Proof/Machine/Compare.lean ====
section
/-! DEFINITION. Compares (R280 to R283). Only CMP is page-penalty-eligible (R176). -/

namespace Sys2Proof.Machine

/-- CMP (R281). -/
def opCmp (m : Mode) (s : State) : State :=
  let r := operand m s
  (r.2.setP (compareFlags r.2.cpu.a r.1 r.2.cpu.p)).setPenaltyEligible true

/-- CPX (R282). -/
def opCpx (m : Mode) (s : State) : State :=
  let r := operand m s
  r.2.setP (compareFlags r.2.cpu.x r.1 r.2.cpu.p)

/-- CPY (R283). -/
def opCpy (m : Mode) (s : State) : State :=
  let r := operand m s
  r.2.setP (compareFlags r.2.cpu.y r.1 r.2.cpu.p)

/-! ### The forms -/

/-- CMP #$nn (R281). -/
def execCmpImm (value : Byte) (s : State) : Host.Outcome State Fault Refusal :=
  runInstr (.cmpImm value) opCmp s

/-- CMP $nn (R281). -/
def execCmpZp0 (zp : Byte) (s : State) : Host.Outcome State Fault Refusal :=
  runInstr (.cmpZp0 zp) opCmp s

/-- CMP $nn,X (R281). -/
def execCmpZpx (zp : Byte) (s : State) : Host.Outcome State Fault Refusal :=
  runInstr (.cmpZpx zp) opCmp s

/-- CMP $hhll (R281). -/
def execCmpAbs (addr : Word) (s : State) : Host.Outcome State Fault Refusal :=
  runInstr (.cmpAbs addr) opCmp s

/-- CMP $hhll,X (R281). -/
def execCmpAbx (base : Word) (s : State) : Host.Outcome State Fault Refusal :=
  runInstr (.cmpAbx base) opCmp s

/-- CMP $hhll,Y (R281). -/
def execCmpAby (base : Word) (s : State) : Host.Outcome State Fault Refusal :=
  runInstr (.cmpAby base) opCmp s

/-- CMP ($nn,X) (R281). -/
def execCmpIzx (zp : Byte) (s : State) : Host.Outcome State Fault Refusal :=
  runInstr (.cmpIzx zp) opCmp s

/-- CMP ($nn),Y (R281). -/
def execCmpIzy (zp : Byte) (s : State) : Host.Outcome State Fault Refusal :=
  runInstr (.cmpIzy zp) opCmp s

/-- CPX #$nn (R282). -/
def execCpxImm (value : Byte) (s : State) : Host.Outcome State Fault Refusal :=
  runInstr (.cpxImm value) opCpx s

/-- CPX $nn (R282). -/
def execCpxZp0 (zp : Byte) (s : State) : Host.Outcome State Fault Refusal :=
  runInstr (.cpxZp0 zp) opCpx s

/-- CPX $hhll (R282). -/
def execCpxAbs (addr : Word) (s : State) : Host.Outcome State Fault Refusal :=
  runInstr (.cpxAbs addr) opCpx s

/-- CPY #$nn (R283). -/
def execCpyImm (value : Byte) (s : State) : Host.Outcome State Fault Refusal :=
  runInstr (.cpyImm value) opCpy s

/-- CPY $nn (R283). -/
def execCpyZp0 (zp : Byte) (s : State) : Host.Outcome State Fault Refusal :=
  runInstr (.cpyZp0 zp) opCpy s

/-- CPY $hhll (R283). -/
def execCpyAbs (addr : Word) (s : State) : Host.Outcome State Fault Refusal :=
  runInstr (.cpyAbs addr) opCpy s

end Sys2Proof.Machine
end

