-- ==== Sys2Proof/Machine/FlagInstr.lean ====
section
/-! DEFINITION. Flag instructions, NOP and the illegal stub (R310 to R318). -/

namespace Sys2Proof.Machine

/-- CLC (R310). -/
def opClc (_ : Mode) (s : State) : State := s.setFlag .c false

/-- SEC (R311). -/
def opSec (_ : Mode) (s : State) : State := s.setFlag .c true

/-- CLD (R312). -/
def opCld (_ : Mode) (s : State) : State := s.setFlag .d false

/-- SED (R313). -/
def opSed (_ : Mode) (s : State) : State := s.setFlag .d true

/-- CLI (R314). -/
def opCli (_ : Mode) (s : State) : State := s.setFlag .i false

/-- SEI (R315). -/
def opSei (_ : Mode) (s : State) : State := s.setFlag .i true

/-- CLV (R316). -/
def opClv (_ : Mode) (s : State) : State := s.setFlag .v false

/-- NOP (R317). -/
def opNop (_ : Mode) (s : State) : State := s

/-- The illegal stub (R318): nothing. -/
def opIllegal (_ : Mode) (s : State) : State := s

/-! ### The forms -/

/-- CLC (R310). -/
def execClc (s : State) : Host.Outcome State Fault Refusal :=
  runInstr .clc opClc s

/-- SEC (R311). -/
def execSec (s : State) : Host.Outcome State Fault Refusal :=
  runInstr .sec opSec s

/-- CLD (R312). -/
def execCld (s : State) : Host.Outcome State Fault Refusal :=
  runInstr .cld opCld s

/-- SED (R313). -/
def execSed (s : State) : Host.Outcome State Fault Refusal :=
  runInstr .sed opSed s

/-- CLI (R314). -/
def execCli (s : State) : Host.Outcome State Fault Refusal :=
  runInstr .cli opCli s

/-- SEI (R315). -/
def execSei (s : State) : Host.Outcome State Fault Refusal :=
  runInstr .sei opSei s

/-- CLV (R316). -/
def execClv (s : State) : Host.Outcome State Fault Refusal :=
  runInstr .clv opClv s

/-- NOP (R317). -/
def execNop (s : State) : Host.Outcome State Fault Refusal :=
  runInstr .nop opNop s

/-- The illegal stub, whatever its byte (R318): one byte long, no effect, ILLEGAL_OPCODE_CLOCKS clocks. -/
def execIllegal (opcode : Byte) (s : State) : Host.Outcome State Fault Refusal :=
  runInstr (.illegal opcode) opIllegal s

end Sys2Proof.Machine
end

