-- ==== Sys2Proof/Machine/Jump.lean ====
section
/-! DEFINITION. Jumps, calls, returns, BRK and RTI (R290 to R294). -/

namespace Sys2Proof.Machine

/-- JMP (R290). -/
def opJmp (_ : Mode) (s : State) : State := s.setPc s.cpu.absAddr

/-- JSR (R291): push the address of its own last byte, then go to the target resolved before the pushes. -/
def opJsr (_ : Mode) (s : State) : State := (pushWord (s.cpu.pc - 1) s).setPc s.cpu.absAddr

/-- RTS (R292). -/
def opRts (_ : Mode) (s : State) : State :=
  let r := popWord s
  r.2.setPc (r.1 + 1)

/-- BRK (R293). -/
def opBrk (_ : Mode) (s : State) : State := takeBreak s

/-- RTI (R294). -/
def opRti (_ : Mode) (s : State) : State := returnFromInterrupt s

/-! ### The forms -/

/-- JMP $hhll (R290). -/
def execJmpAbs (addr : Word) (s : State) : Host.Outcome State Fault Refusal :=
  runInstr (.jmpAbs addr) opJmp s

/-- JMP ($hhll) (R290). -/
def execJmpInd (ptr : Word) (s : State) : Host.Outcome State Fault Refusal :=
  runInstr (.jmpInd ptr) opJmp s

/-- JSR $hhll (R291). -/
def execJsr (addr : Word) (s : State) : Host.Outcome State Fault Refusal :=
  runInstr (.jsr addr) opJsr s

/-- RTS (R292). -/
def execRts (s : State) : Host.Outcome State Fault Refusal :=
  runInstr .rts opRts s

/-- BRK (R293). -/
def execBrk (s : State) : Host.Outcome State Fault Refusal :=
  runInstr .brk opBrk s

/-- RTI (R294). -/
def execRti (s : State) : Host.Outcome State Fault Refusal :=
  runInstr .rti opRti s

end Sys2Proof.Machine
end

