-- ==== Sys2Proof/Machine/Load.lean ====
section
/-! DEFINITION. Loads (R201 to R203): an operation per mnemonic, a meaning per form. -/

namespace Sys2Proof.Machine

/-- LDA (R201). -/
def opLda (m : Mode) (s : State) : State :=
  let r := operand m s
  ((r.2.setA r.1).setP (setZN r.1 r.2.cpu.p)).setPenaltyEligible true

/-- LDX (R202). -/
def opLdx (m : Mode) (s : State) : State :=
  let r := operand m s
  ((r.2.setX r.1).setP (setZN r.1 r.2.cpu.p)).setPenaltyEligible true

/-- LDY (R203). -/
def opLdy (m : Mode) (s : State) : State :=
  let r := operand m s
  ((r.2.setY r.1).setP (setZN r.1 r.2.cpu.p)).setPenaltyEligible true

/-! ### The forms -/

/-- LDA #$nn (R201). -/
def execLdaImm (value : Byte) (s : State) : Host.Outcome State Fault Refusal :=
  runInstr (.ldaImm value) opLda s

/-- LDA $nn (R201). -/
def execLdaZp0 (zp : Byte) (s : State) : Host.Outcome State Fault Refusal :=
  runInstr (.ldaZp0 zp) opLda s

/-- LDA $nn,X (R201). -/
def execLdaZpx (zp : Byte) (s : State) : Host.Outcome State Fault Refusal :=
  runInstr (.ldaZpx zp) opLda s

/-- LDA $hhll (R201). -/
def execLdaAbs (addr : Word) (s : State) : Host.Outcome State Fault Refusal :=
  runInstr (.ldaAbs addr) opLda s

/-- LDA $hhll,X (R201). -/
def execLdaAbx (base : Word) (s : State) : Host.Outcome State Fault Refusal :=
  runInstr (.ldaAbx base) opLda s

/-- LDA $hhll,Y (R201). -/
def execLdaAby (base : Word) (s : State) : Host.Outcome State Fault Refusal :=
  runInstr (.ldaAby base) opLda s

/-- LDA ($nn,X) (R201). -/
def execLdaIzx (zp : Byte) (s : State) : Host.Outcome State Fault Refusal :=
  runInstr (.ldaIzx zp) opLda s

/-- LDA ($nn),Y (R201). -/
def execLdaIzy (zp : Byte) (s : State) : Host.Outcome State Fault Refusal :=
  runInstr (.ldaIzy zp) opLda s

/-- LDX #$nn (R202). -/
def execLdxImm (value : Byte) (s : State) : Host.Outcome State Fault Refusal :=
  runInstr (.ldxImm value) opLdx s

/-- LDX $nn (R202). -/
def execLdxZp0 (zp : Byte) (s : State) : Host.Outcome State Fault Refusal :=
  runInstr (.ldxZp0 zp) opLdx s

/-- LDX $nn,Y (R202). -/
def execLdxZpy (zp : Byte) (s : State) : Host.Outcome State Fault Refusal :=
  runInstr (.ldxZpy zp) opLdx s

/-- LDX $hhll (R202). -/
def execLdxAbs (addr : Word) (s : State) : Host.Outcome State Fault Refusal :=
  runInstr (.ldxAbs addr) opLdx s

/-- LDX $hhll,Y (R202). -/
def execLdxAby (base : Word) (s : State) : Host.Outcome State Fault Refusal :=
  runInstr (.ldxAby base) opLdx s

/-- LDY #$nn (R203). -/
def execLdyImm (value : Byte) (s : State) : Host.Outcome State Fault Refusal :=
  runInstr (.ldyImm value) opLdy s

/-- LDY $nn (R203). -/
def execLdyZp0 (zp : Byte) (s : State) : Host.Outcome State Fault Refusal :=
  runInstr (.ldyZp0 zp) opLdy s

/-- LDY $nn,X (R203). -/
def execLdyZpx (zp : Byte) (s : State) : Host.Outcome State Fault Refusal :=
  runInstr (.ldyZpx zp) opLdy s

/-- LDY $hhll (R203). -/
def execLdyAbs (addr : Word) (s : State) : Host.Outcome State Fault Refusal :=
  runInstr (.ldyAbs addr) opLdy s

/-- LDY $hhll,X (R203). -/
def execLdyAbx (base : Word) (s : State) : Host.Outcome State Fault Refusal :=
  runInstr (.ldyAbx base) opLdy s

end Sys2Proof.Machine
end

