-- ==== Sys2Proof/Machine/Logic.lean ====
section
/-! DEFINITION. Logic (R250 to R253). -/

namespace Sys2Proof.Machine

/-- Combine the operand into A, with Z and N of the result, page-penalty-eligible: AND, ORA, EOR. -/
def combine (f : Byte → Byte → Byte) (m : Mode) (s : State) : State :=
  let r := operand m s
  ((r.2.setA (f r.2.cpu.a r.1)).setP (setZN (f r.2.cpu.a r.1) r.2.cpu.p)).setPenaltyEligible true

/-- AND (R250). -/
def opAnd (m : Mode) (s : State) : State := combine (· &&& ·) m s

/-- ORA (R251). -/
def opOra (m : Mode) (s : State) : State := combine (· ||| ·) m s

/-- EOR (R252). -/
def opEor (m : Mode) (s : State) : State := combine (· ^^^ ·) m s

/-- BIT (R253). -/
def opBit (m : Mode) (s : State) : State :=
  let r := operand m s
  r.2.setP (bitFlags r.2.cpu.a r.1 r.2.cpu.p)

/-! ### The forms -/

/-- AND #$nn (R250). -/
def execAndImm (value : Byte) (s : State) : Host.Outcome State Fault Refusal :=
  runInstr (.andImm value) opAnd s

/-- AND $nn (R250). -/
def execAndZp0 (zp : Byte) (s : State) : Host.Outcome State Fault Refusal :=
  runInstr (.andZp0 zp) opAnd s

/-- AND $nn,X (R250). -/
def execAndZpx (zp : Byte) (s : State) : Host.Outcome State Fault Refusal :=
  runInstr (.andZpx zp) opAnd s

/-- AND $hhll (R250). -/
def execAndAbs (addr : Word) (s : State) : Host.Outcome State Fault Refusal :=
  runInstr (.andAbs addr) opAnd s

/-- AND $hhll,X (R250). -/
def execAndAbx (base : Word) (s : State) : Host.Outcome State Fault Refusal :=
  runInstr (.andAbx base) opAnd s

/-- AND $hhll,Y (R250). -/
def execAndAby (base : Word) (s : State) : Host.Outcome State Fault Refusal :=
  runInstr (.andAby base) opAnd s

/-- AND ($nn,X) (R250). -/
def execAndIzx (zp : Byte) (s : State) : Host.Outcome State Fault Refusal :=
  runInstr (.andIzx zp) opAnd s

/-- AND ($nn),Y (R250). -/
def execAndIzy (zp : Byte) (s : State) : Host.Outcome State Fault Refusal :=
  runInstr (.andIzy zp) opAnd s

/-- ORA #$nn (R251). -/
def execOraImm (value : Byte) (s : State) : Host.Outcome State Fault Refusal :=
  runInstr (.oraImm value) opOra s

/-- ORA $nn (R251). -/
def execOraZp0 (zp : Byte) (s : State) : Host.Outcome State Fault Refusal :=
  runInstr (.oraZp0 zp) opOra s

/-- ORA $nn,X (R251). -/
def execOraZpx (zp : Byte) (s : State) : Host.Outcome State Fault Refusal :=
  runInstr (.oraZpx zp) opOra s

/-- ORA $hhll (R251). -/
def execOraAbs (addr : Word) (s : State) : Host.Outcome State Fault Refusal :=
  runInstr (.oraAbs addr) opOra s

/-- ORA $hhll,X (R251). -/
def execOraAbx (base : Word) (s : State) : Host.Outcome State Fault Refusal :=
  runInstr (.oraAbx base) opOra s

/-- ORA $hhll,Y (R251). -/
def execOraAby (base : Word) (s : State) : Host.Outcome State Fault Refusal :=
  runInstr (.oraAby base) opOra s

/-- ORA ($nn,X) (R251). -/
def execOraIzx (zp : Byte) (s : State) : Host.Outcome State Fault Refusal :=
  runInstr (.oraIzx zp) opOra s

/-- ORA ($nn),Y (R251). -/
def execOraIzy (zp : Byte) (s : State) : Host.Outcome State Fault Refusal :=
  runInstr (.oraIzy zp) opOra s

/-- EOR #$nn (R252). -/
def execEorImm (value : Byte) (s : State) : Host.Outcome State Fault Refusal :=
  runInstr (.eorImm value) opEor s

/-- EOR $nn (R252). -/
def execEorZp0 (zp : Byte) (s : State) : Host.Outcome State Fault Refusal :=
  runInstr (.eorZp0 zp) opEor s

/-- EOR $nn,X (R252). -/
def execEorZpx (zp : Byte) (s : State) : Host.Outcome State Fault Refusal :=
  runInstr (.eorZpx zp) opEor s

/-- EOR $hhll (R252). -/
def execEorAbs (addr : Word) (s : State) : Host.Outcome State Fault Refusal :=
  runInstr (.eorAbs addr) opEor s

/-- EOR $hhll,X (R252). -/
def execEorAbx (base : Word) (s : State) : Host.Outcome State Fault Refusal :=
  runInstr (.eorAbx base) opEor s

/-- EOR $hhll,Y (R252). -/
def execEorAby (base : Word) (s : State) : Host.Outcome State Fault Refusal :=
  runInstr (.eorAby base) opEor s

/-- EOR ($nn,X) (R252). -/
def execEorIzx (zp : Byte) (s : State) : Host.Outcome State Fault Refusal :=
  runInstr (.eorIzx zp) opEor s

/-- EOR ($nn),Y (R252). -/
def execEorIzy (zp : Byte) (s : State) : Host.Outcome State Fault Refusal :=
  runInstr (.eorIzy zp) opEor s

/-- BIT $nn (R253). -/
def execBitZp0 (zp : Byte) (s : State) : Host.Outcome State Fault Refusal :=
  runInstr (.bitZp0 zp) opBit s

/-- BIT $hhll (R253). -/
def execBitAbs (addr : Word) (s : State) : Host.Outcome State Fault Refusal :=
  runInstr (.bitAbs addr) opBit s

end Sys2Proof.Machine
end

