-- ==== Sys2Proof/Machine/Shift.lean ====
section
/-! DEFINITION. Shifts and rotates (R260 to R264), on A and on memory. None is page-penalty-eligible (R260). -/

namespace Sys2Proof.Machine

/-- The common form of R260: one read, one write, C from the bit that left, Z and N from the result. -/
def shiftWith (f : Bool → Byte → Byte × Bool) (m : Mode) (s : State) : State :=
  let r := operand m s
  let q := f (r.2.flag .c) r.1
  let t := writeback m q.1 r.2
  t.setP (shiftFlags q t.cpu.p)

/-- ASL (R261). -/
def opAsl (m : Mode) (s : State) : State := shiftWith (fun _ => aslByte) m s

/-- LSR (R262). -/
def opLsr (m : Mode) (s : State) : State := shiftWith (fun _ => lsrByte) m s

/-- ROL (R263). -/
def opRol (m : Mode) (s : State) : State := shiftWith rolByte m s

/-- ROR (R264). -/
def opRor (m : Mode) (s : State) : State := shiftWith rorByte m s

/-! ### The forms -/

/-- ASL A (R261). -/
def execAslAcc (s : State) : Host.Outcome State Fault Refusal :=
  runInstr .aslAcc opAsl s

/-- ASL $nn (R261). -/
def execAslZp0 (zp : Byte) (s : State) : Host.Outcome State Fault Refusal :=
  runInstr (.aslZp0 zp) opAsl s

/-- ASL $nn,X (R261). -/
def execAslZpx (zp : Byte) (s : State) : Host.Outcome State Fault Refusal :=
  runInstr (.aslZpx zp) opAsl s

/-- ASL $hhll (R261). -/
def execAslAbs (addr : Word) (s : State) : Host.Outcome State Fault Refusal :=
  runInstr (.aslAbs addr) opAsl s

/-- ASL $hhll,X (R261). -/
def execAslAbx (base : Word) (s : State) : Host.Outcome State Fault Refusal :=
  runInstr (.aslAbx base) opAsl s

/-- LSR A (R262). -/
def execLsrAcc (s : State) : Host.Outcome State Fault Refusal :=
  runInstr .lsrAcc opLsr s

/-- LSR $nn (R262). -/
def execLsrZp0 (zp : Byte) (s : State) : Host.Outcome State Fault Refusal :=
  runInstr (.lsrZp0 zp) opLsr s

/-- LSR $nn,X (R262). -/
def execLsrZpx (zp : Byte) (s : State) : Host.Outcome State Fault Refusal :=
  runInstr (.lsrZpx zp) opLsr s

/-- LSR $hhll (R262). -/
def execLsrAbs (addr : Word) (s : State) : Host.Outcome State Fault Refusal :=
  runInstr (.lsrAbs addr) opLsr s

/-- LSR $hhll,X (R262). -/
def execLsrAbx (base : Word) (s : State) : Host.Outcome State Fault Refusal :=
  runInstr (.lsrAbx base) opLsr s

/-- ROL A (R263). -/
def execRolAcc (s : State) : Host.Outcome State Fault Refusal :=
  runInstr .rolAcc opRol s

/-- ROL $nn (R263). -/
def execRolZp0 (zp : Byte) (s : State) : Host.Outcome State Fault Refusal :=
  runInstr (.rolZp0 zp) opRol s

/-- ROL $nn,X (R263). -/
def execRolZpx (zp : Byte) (s : State) : Host.Outcome State Fault Refusal :=
  runInstr (.rolZpx zp) opRol s

/-- ROL $hhll (R263). -/
def execRolAbs (addr : Word) (s : State) : Host.Outcome State Fault Refusal :=
  runInstr (.rolAbs addr) opRol s

/-- ROL $hhll,X (R263). -/
def execRolAbx (base : Word) (s : State) : Host.Outcome State Fault Refusal :=
  runInstr (.rolAbx base) opRol s

/-- ROR A (R264). -/
def execRorAcc (s : State) : Host.Outcome State Fault Refusal :=
  runInstr .rorAcc opRor s

/-- ROR $nn (R264). -/
def execRorZp0 (zp : Byte) (s : State) : Host.Outcome State Fault Refusal :=
  runInstr (.rorZp0 zp) opRor s

/-- ROR $nn,X (R264). -/
def execRorZpx (zp : Byte) (s : State) : Host.Outcome State Fault Refusal :=
  runInstr (.rorZpx zp) opRor s

/-- ROR $hhll (R264). -/
def execRorAbs (addr : Word) (s : State) : Host.Outcome State Fault Refusal :=
  runInstr (.rorAbs addr) opRor s

/-- ROR $hhll,X (R264). -/
def execRorAbx (base : Word) (s : State) : Host.Outcome State Fault Refusal :=
  runInstr (.rorAbx base) opRor s

end Sys2Proof.Machine
end

