-- ==== Sys2Proof/Machine/Stack.lean ====
section
/-! DEFINITION. Stack instructions (R300 to R303). -/

namespace Sys2Proof.Machine

/-- PHA (R300). -/
def opPha (_ : Mode) (s : State) : State := push s.cpu.a s

/-- PHP (R301): B and U are 1 in the pushed copy. -/
def opPhp (_ : Mode) (s : State) : State := push (s.cpu.p ||| 0x30) s

/-- PLA (R302). -/
def opPla (_ : Mode) (s : State) : State :=
  let r := pop s
  (r.2.setA r.1).setP (setZN r.1 r.2.cpu.p)

/-- PLP (R303): B cleared, U set. -/
def opPlp (_ : Mode) (s : State) : State :=
  let r := pop s
  r.2.setP ((r.1 &&& 0xCF) ||| 0x20)

/-! ### The forms -/

/-- PHA (R300). -/
def execPha (s : State) : Host.Outcome State Fault Refusal :=
  runInstr .pha opPha s

/-- PHP (R301). -/
def execPhp (s : State) : Host.Outcome State Fault Refusal :=
  runInstr .php opPhp s

/-- PLA (R302). -/
def execPla (s : State) : Host.Outcome State Fault Refusal :=
  runInstr .pla opPla s

/-- PLP (R303). -/
def execPlp (s : State) : Host.Outcome State Fault Refusal :=
  runInstr .plp opPlp s

end Sys2Proof.Machine
end

