-- ==== Sys2Proof/Machine/Store.lean ====
section
/-! DEFINITION. Stores (R204 to R206). A store writes no flag and reads its target not at all. -/

namespace Sys2Proof.Machine

/-- STA (R204). -/
def opSta (_ : Mode) (s : State) : State := memWrite s.cpu.absAddr s.cpu.a s

/-- STX (R205). -/
def opStx (_ : Mode) (s : State) : State := memWrite s.cpu.absAddr s.cpu.x s

/-- STY (R206). -/
def opSty (_ : Mode) (s : State) : State := memWrite s.cpu.absAddr s.cpu.y s

/-! ### The forms -/

/-- STA $nn (R204). -/
def execStaZp0 (zp : Byte) (s : State) : Host.Outcome State Fault Refusal :=
  runInstr (.staZp0 zp) opSta s

/-- STA $nn,X (R204). -/
def execStaZpx (zp : Byte) (s : State) : Host.Outcome State Fault Refusal :=
  runInstr (.staZpx zp) opSta s

/-- STA $hhll (R204). -/
def execStaAbs (addr : Word) (s : State) : Host.Outcome State Fault Refusal :=
  runInstr (.staAbs addr) opSta s

/-- STA $hhll,X (R204). -/
def execStaAbx (base : Word) (s : State) : Host.Outcome State Fault Refusal :=
  runInstr (.staAbx base) opSta s

/-- STA $hhll,Y (R204). -/
def execStaAby (base : Word) (s : State) : Host.Outcome State Fault Refusal :=
  runInstr (.staAby base) opSta s

/-- STA ($nn,X) (R204). -/
def execStaIzx (zp : Byte) (s : State) : Host.Outcome State Fault Refusal :=
  runInstr (.staIzx zp) opSta s

/-- STA ($nn),Y (R204). -/
def execStaIzy (zp : Byte) (s : State) : Host.Outcome State Fault Refusal :=
  runInstr (.staIzy zp) opSta s

/-- STX $nn (R205). -/
def execStxZp0 (zp : Byte) (s : State) : Host.Outcome State Fault Refusal :=
  runInstr (.stxZp0 zp) opStx s

/-- STX $nn,Y (R205). -/
def execStxZpy (zp : Byte) (s : State) : Host.Outcome State Fault Refusal :=
  runInstr (.stxZpy zp) opStx s

/-- STX $hhll (R205). -/
def execStxAbs (addr : Word) (s : State) : Host.Outcome State Fault Refusal :=
  runInstr (.stxAbs addr) opStx s

/-- STY $nn (R206). -/
def execStyZp0 (zp : Byte) (s : State) : Host.Outcome State Fault Refusal :=
  runInstr (.styZp0 zp) opSty s

/-- STY $nn,X (R206). -/
def execStyZpx (zp : Byte) (s : State) : Host.Outcome State Fault Refusal :=
  runInstr (.styZpx zp) opSty s

/-- STY $hhll (R206). -/
def execStyAbs (addr : Word) (s : State) : Host.Outcome State Fault Refusal :=
  runInstr (.styAbs addr) opSty s

end Sys2Proof.Machine
end

