-- ==== Sys2Proof/Machine/Transfer.lean ====
section
/-! DEFINITION. Register transfers (R207 to R212). TXS alone writes no flag. -/

namespace Sys2Proof.Machine

/-- TAX (R207). -/
def opTax (_ : Mode) (s : State) : State := (s.setX s.cpu.a).setP (setZN s.cpu.a s.cpu.p)

/-- TAY (R208). -/
def opTay (_ : Mode) (s : State) : State := (s.setY s.cpu.a).setP (setZN s.cpu.a s.cpu.p)

/-- TSX (R209). -/
def opTsx (_ : Mode) (s : State) : State := (s.setX s.cpu.sp).setP (setZN s.cpu.sp s.cpu.p)

/-- TXA (R210). -/
def opTxa (_ : Mode) (s : State) : State := (s.setA s.cpu.x).setP (setZN s.cpu.x s.cpu.p)

/-- TXS (R211). -/
def opTxs (_ : Mode) (s : State) : State := s.setSp s.cpu.x

/-- TYA (R212). -/
def opTya (_ : Mode) (s : State) : State := (s.setA s.cpu.y).setP (setZN s.cpu.y s.cpu.p)

/-! ### The forms -/

/-- TAX (R207). -/
def execTax (s : State) : Host.Outcome State Fault Refusal :=
  runInstr .tax opTax s

/-- TAY (R208). -/
def execTay (s : State) : Host.Outcome State Fault Refusal :=
  runInstr .tay opTay s

/-- TSX (R209). -/
def execTsx (s : State) : Host.Outcome State Fault Refusal :=
  runInstr .tsx opTsx s

/-- TXA (R210). -/
def execTxa (s : State) : Host.Outcome State Fault Refusal :=
  runInstr .txa opTxa s

/-- TXS (R211). -/
def execTxs (s : State) : Host.Outcome State Fault Refusal :=
  runInstr .txs opTxs s

/-- TYA (R212). -/
def execTya (s : State) : Host.Outcome State Fault Refusal :=
  runInstr .tya opTya s

end Sys2Proof.Machine
end

