-- ==== Sys2Proof/Machine/Dispatch.lean ====
section
/-! DEFINITION. Which meaning each instruction has. -/

namespace Sys2Proof.Machine

def exec (i : Instr) (s : State) : Host.Outcome State Fault Refusal :=
  match i with
  -- Loads (R201 to R203)
  | .ldaImm value => Sys2Proof.Machine.execLdaImm value s
  | .ldaZp0 zp => Sys2Proof.Machine.execLdaZp0 zp s
  | .ldaZpx zp => Sys2Proof.Machine.execLdaZpx zp s
  | .ldaAbs addr => Sys2Proof.Machine.execLdaAbs addr s
  | .ldaAbx base => Sys2Proof.Machine.execLdaAbx base s
  | .ldaAby base => Sys2Proof.Machine.execLdaAby base s
  | .ldaIzx zp => Sys2Proof.Machine.execLdaIzx zp s
  | .ldaIzy zp => Sys2Proof.Machine.execLdaIzy zp s
  | .ldxImm value => Sys2Proof.Machine.execLdxImm value s
  | .ldxZp0 zp => Sys2Proof.Machine.execLdxZp0 zp s
  | .ldxZpy zp => Sys2Proof.Machine.execLdxZpy zp s
  | .ldxAbs addr => Sys2Proof.Machine.execLdxAbs addr s
  | .ldxAby base => Sys2Proof.Machine.execLdxAby base s
  | .ldyImm value => Sys2Proof.Machine.execLdyImm value s
  | .ldyZp0 zp => Sys2Proof.Machine.execLdyZp0 zp s
  | .ldyZpx zp => Sys2Proof.Machine.execLdyZpx zp s
  | .ldyAbs addr => Sys2Proof.Machine.execLdyAbs addr s
  | .ldyAbx base => Sys2Proof.Machine.execLdyAbx base s
  -- Stores (R204 to R206)
  | .staZp0 zp => Sys2Proof.Machine.execStaZp0 zp s
  | .staZpx zp => Sys2Proof.Machine.execStaZpx zp s
  | .staAbs addr => Sys2Proof.Machine.execStaAbs addr s
  | .staAbx base => Sys2Proof.Machine.execStaAbx base s
  | .staAby base => Sys2Proof.Machine.execStaAby base s
  | .staIzx zp => Sys2Proof.Machine.execStaIzx zp s
  | .staIzy zp => Sys2Proof.Machine.execStaIzy zp s
  | .stxZp0 zp => Sys2Proof.Machine.execStxZp0 zp s
  | .stxZpy zp => Sys2Proof.Machine.execStxZpy zp s
  | .stxAbs addr => Sys2Proof.Machine.execStxAbs addr s
  | .styZp0 zp => Sys2Proof.Machine.execStyZp0 zp s
  | .styZpx zp => Sys2Proof.Machine.execStyZpx zp s
  | .styAbs addr => Sys2Proof.Machine.execStyAbs addr s
  -- Register transfers (R207 to R212)
  | .tax => Sys2Proof.Machine.execTax s
  | .tay => Sys2Proof.Machine.execTay s
  | .tsx => Sys2Proof.Machine.execTsx s
  | .txa => Sys2Proof.Machine.execTxa s
  | .txs => Sys2Proof.Machine.execTxs s
  | .tya => Sys2Proof.Machine.execTya s
  -- Arithmetic (R230 to R238)
  | .adcImm value => Sys2Proof.Machine.execAdcImm value s
  | .adcZp0 zp => Sys2Proof.Machine.execAdcZp0 zp s
  | .adcZpx zp => Sys2Proof.Machine.execAdcZpx zp s
  | .adcAbs addr => Sys2Proof.Machine.execAdcAbs addr s
  | .adcAbx base => Sys2Proof.Machine.execAdcAbx base s
  | .adcAby base => Sys2Proof.Machine.execAdcAby base s
  | .adcIzx zp => Sys2Proof.Machine.execAdcIzx zp s
  | .adcIzy zp => Sys2Proof.Machine.execAdcIzy zp s
  | .sbcImm value => Sys2Proof.Machine.execSbcImm value s
  | .sbcZp0 zp => Sys2Proof.Machine.execSbcZp0 zp s
  | .sbcZpx zp => Sys2Proof.Machine.execSbcZpx zp s
  | .sbcAbs addr => Sys2Proof.Machine.execSbcAbs addr s
  | .sbcAbx base => Sys2Proof.Machine.execSbcAbx base s
  | .sbcAby base => Sys2Proof.Machine.execSbcAby base s
  | .sbcIzx zp => Sys2Proof.Machine.execSbcIzx zp s
  | .sbcIzy zp => Sys2Proof.Machine.execSbcIzy zp s
  | .incZp0 zp => Sys2Proof.Machine.execIncZp0 zp s
  | .incZpx zp => Sys2Proof.Machine.execIncZpx zp s
  | .incAbs addr => Sys2Proof.Machine.execIncAbs addr s
  | .incAbx base => Sys2Proof.Machine.execIncAbx base s
  | .inx => Sys2Proof.Machine.execInx s
  | .iny => Sys2Proof.Machine.execIny s
  | .decZp0 zp => Sys2Proof.Machine.execDecZp0 zp s
  | .decZpx zp => Sys2Proof.Machine.execDecZpx zp s
  | .decAbs addr => Sys2Proof.Machine.execDecAbs addr s
  | .decAbx base => Sys2Proof.Machine.execDecAbx base s
  | .dex => Sys2Proof.Machine.execDex s
  | .dey => Sys2Proof.Machine.execDey s
  -- Logic (R250 to R253)
  | .andImm value => Sys2Proof.Machine.execAndImm value s
  | .andZp0 zp => Sys2Proof.Machine.execAndZp0 zp s
  | .andZpx zp => Sys2Proof.Machine.execAndZpx zp s
  | .andAbs addr => Sys2Proof.Machine.execAndAbs addr s
  | .andAbx base => Sys2Proof.Machine.execAndAbx base s
  | .andAby base => Sys2Proof.Machine.execAndAby base s
  | .andIzx zp => Sys2Proof.Machine.execAndIzx zp s
  | .andIzy zp => Sys2Proof.Machine.execAndIzy zp s
  | .oraImm value => Sys2Proof.Machine.execOraImm value s
  | .oraZp0 zp => Sys2Proof.Machine.execOraZp0 zp s
  | .oraZpx zp => Sys2Proof.Machine.execOraZpx zp s
  | .oraAbs addr => Sys2Proof.Machine.execOraAbs addr s
  | .oraAbx base => Sys2Proof.Machine.execOraAbx base s
  | .oraAby base => Sys2Proof.Machine.execOraAby base s
  | .oraIzx zp => Sys2Proof.Machine.execOraIzx zp s
  | .oraIzy zp => Sys2Proof.Machine.execOraIzy zp s
  | .eorImm value => Sys2Proof.Machine.execEorImm value s
  | .eorZp0 zp => Sys2Proof.Machine.execEorZp0 zp s
  | .eorZpx zp => Sys2Proof.Machine.execEorZpx zp s
  | .eorAbs addr => Sys2Proof.Machine.execEorAbs addr s
  | .eorAbx base => Sys2Proof.Machine.execEorAbx base s
  | .eorAby base => Sys2Proof.Machine.execEorAby base s
  | .eorIzx zp => Sys2Proof.Machine.execEorIzx zp s
  | .eorIzy zp => Sys2Proof.Machine.execEorIzy zp s
  | .bitZp0 zp => Sys2Proof.Machine.execBitZp0 zp s
  | .bitAbs addr => Sys2Proof.Machine.execBitAbs addr s
  -- Shifts and rotates (R260 to R264)
  | .aslAcc => Sys2Proof.Machine.execAslAcc s
  | .aslZp0 zp => Sys2Proof.Machine.execAslZp0 zp s
  | .aslZpx zp => Sys2Proof.Machine.execAslZpx zp s
  | .aslAbs addr => Sys2Proof.Machine.execAslAbs addr s
  | .aslAbx base => Sys2Proof.Machine.execAslAbx base s
  | .lsrAcc => Sys2Proof.Machine.execLsrAcc s
  | .lsrZp0 zp => Sys2Proof.Machine.execLsrZp0 zp s
  | .lsrZpx zp => Sys2Proof.Machine.execLsrZpx zp s
  | .lsrAbs addr => Sys2Proof.Machine.execLsrAbs addr s
  | .lsrAbx base => Sys2Proof.Machine.execLsrAbx base s
  | .rolAcc => Sys2Proof.Machine.execRolAcc s
  | .rolZp0 zp => Sys2Proof.Machine.execRolZp0 zp s
  | .rolZpx zp => Sys2Proof.Machine.execRolZpx zp s
  | .rolAbs addr => Sys2Proof.Machine.execRolAbs addr s
  | .rolAbx base => Sys2Proof.Machine.execRolAbx base s
  | .rorAcc => Sys2Proof.Machine.execRorAcc s
  | .rorZp0 zp => Sys2Proof.Machine.execRorZp0 zp s
  | .rorZpx zp => Sys2Proof.Machine.execRorZpx zp s
  | .rorAbs addr => Sys2Proof.Machine.execRorAbs addr s
  | .rorAbx base => Sys2Proof.Machine.execRorAbx base s
  -- Branches (R270 to R278)
  | .bcc offset => Sys2Proof.Machine.execBcc offset s
  | .bcs offset => Sys2Proof.Machine.execBcs offset s
  | .beq offset => Sys2Proof.Machine.execBeq offset s
  | .bmi offset => Sys2Proof.Machine.execBmi offset s
  | .bne offset => Sys2Proof.Machine.execBne offset s
  | .bpl offset => Sys2Proof.Machine.execBpl offset s
  | .bvc offset => Sys2Proof.Machine.execBvc offset s
  | .bvs offset => Sys2Proof.Machine.execBvs offset s
  -- Compares (R280 to R283)
  | .cmpImm value => Sys2Proof.Machine.execCmpImm value s
  | .cmpZp0 zp => Sys2Proof.Machine.execCmpZp0 zp s
  | .cmpZpx zp => Sys2Proof.Machine.execCmpZpx zp s
  | .cmpAbs addr => Sys2Proof.Machine.execCmpAbs addr s
  | .cmpAbx base => Sys2Proof.Machine.execCmpAbx base s
  | .cmpAby base => Sys2Proof.Machine.execCmpAby base s
  | .cmpIzx zp => Sys2Proof.Machine.execCmpIzx zp s
  | .cmpIzy zp => Sys2Proof.Machine.execCmpIzy zp s
  | .cpxImm value => Sys2Proof.Machine.execCpxImm value s
  | .cpxZp0 zp => Sys2Proof.Machine.execCpxZp0 zp s
  | .cpxAbs addr => Sys2Proof.Machine.execCpxAbs addr s
  | .cpyImm value => Sys2Proof.Machine.execCpyImm value s
  | .cpyZp0 zp => Sys2Proof.Machine.execCpyZp0 zp s
  | .cpyAbs addr => Sys2Proof.Machine.execCpyAbs addr s
  -- Jumps, calls, returns, BRK, RTI (R290 to R294)
  | .jmpAbs addr => Sys2Proof.Machine.execJmpAbs addr s
  | .jmpInd ptr => Sys2Proof.Machine.execJmpInd ptr s
  | .jsr addr => Sys2Proof.Machine.execJsr addr s
  | .rts => Sys2Proof.Machine.execRts s
  | .brk => Sys2Proof.Machine.execBrk s
  | .rti => Sys2Proof.Machine.execRti s
  -- Stack (R300 to R303)
  | .pha => Sys2Proof.Machine.execPha s
  | .php => Sys2Proof.Machine.execPhp s
  | .pla => Sys2Proof.Machine.execPla s
  | .plp => Sys2Proof.Machine.execPlp s
  -- Flag instructions and NOP (R310 to R317)
  | .clc => Sys2Proof.Machine.execClc s
  | .sec => Sys2Proof.Machine.execSec s
  | .cld => Sys2Proof.Machine.execCld s
  | .sed => Sys2Proof.Machine.execSed s
  | .cli => Sys2Proof.Machine.execCli s
  | .sei => Sys2Proof.Machine.execSei s
  | .clv => Sys2Proof.Machine.execClv s
  | .nop => Sys2Proof.Machine.execNop s
  -- The illegal stub (R318)
  | .illegal opcode => Sys2Proof.Machine.execIllegal opcode s

end Sys2Proof.Machine
end

