-- ==== Sys2Proof/Machine/Fetch.lean ====
section
/-! DEFINITION. Fetching an instruction's bytes (R171), and placing one where the next fetch finds it. -/

namespace Sys2Proof.Machine

/-- The opcode fetch and the operand fetches (R171): each a read through the full decode with its side effects, at PC and
the addresses after it. PC itself is advanced by the instruction's meaning. -/
def fetch (s : State) : Instr × State :=
  let o := memRead s.cpu.pc s
  match opcodeLength o.1 with
  | 1 => (assemble o.1 0 0, o.2)
  | 2 =>
    let l := memRead (s.cpu.pc + 1) o.2
    (assemble o.1 l.1 0, l.2)
  | _ =>
    let l := memRead (s.cpu.pc + 1) o.2
    let h := memRead (s.cpu.pc + 2) l.2
    (assemble o.1 l.1 h.1, h.2)

/-- Whether an address holds a byte that can be placed: RAM, or PRG ROM where a cartridge is inserted. -/
def State.holdsByte (a : Word) (s : State) : Bool := a.toNat < 0x2000 || (0x8000 ≤ a.toNat && s.cart.isSome)

/-- Place one byte at an address of RAM or of PRG ROM, as a loader would. -/
def State.placeByte (a : Word) (d : Byte) (s : State) : State :=
  if a.toNat < 0x2000 then s.setRamByte a d
  else { s with cart := s.cart.map fun c =>
    { c with prgRom := c.prgRom.write zeroByte (a.toNat % c.prgBanks.bytes) d } }

/-- Place the three bytes of an instruction at PC. Where one of them would fall on a device or an open address, PC is
first moved to the start of RAM (log 1). -/
def State.placeInstr (b0 b1 b2 : Byte) (s : State) : State :=
  let pc := s.cpu.pc
  let fits := s.holdsByte pc && s.holdsByte (pc + 1) && s.holdsByte (pc + 2)
  let s := if fits then s else { s with cpu := { s.cpu with pc := 0 } }
  ((s.placeByte s.cpu.pc b0).placeByte (s.cpu.pc + 1) b1).placeByte (s.cpu.pc + 2) b2

/-- The machine about to dispatch in its next tick (R340, R341): that tick is a CPU slot, the DMA engine is idle, no
clock of an earlier instruction remains, and the host's reset has been done. -/
def State.aboutToDispatch (s : State) : State :=
  { s with
    cpu := { s.cpu with cycles := 0 }, dma := { s.dma with inProgress := false },
    ticks := s.ticks + (2 - s.ticks % 3), ready := true }

end Sys2Proof.Machine
end

