-- ==== Sys2Proof/Machine/PpuClock.lean ====
section
/-! DEFINITION. One PPU clock (R372): the tag actions of the position (R373 to R388), the pixel (R390 to R394), the
advance (R389). -/

namespace Sys2Proof.Machine

/-! ### The eight sprite units (R54) -/

def SpriteUnits.toList (u : SpriteUnits) : List SpriteUnit := [u.u0, u.u1, u.u2, u.u3, u.u4, u.u5, u.u6, u.u7]

/-- The units with an index below `n` changed by `f`. -/
def SpriteUnits.mapBelow (n : Nat) (f : SpriteUnit → SpriteUnit) (u : SpriteUnits) : SpriteUnits :=
  { u0 := if 0 < n then f u.u0 else u.u0
    u1 := if 1 < n then f u.u1 else u.u1
    u2 := if 2 < n then f u.u2 else u.u2
    u3 := if 3 < n then f u.u3 else u.u3
    u4 := if 4 < n then f u.u4 else u.u4
    u5 := if 5 < n then f u.u5 else u.u5
    u6 := if 6 < n then f u.u6 else u.u6
    u7 := if 7 < n then f u.u7 else u.u7 }

/-- The units with unit `n` changed by `f`. -/
def SpriteUnits.mapAt (n : Nat) (f : SpriteUnit → SpriteUnit) (u : SpriteUnits) : SpriteUnits :=
  { u0 := if n = 0 then f u.u0 else u.u0
    u1 := if n = 1 then f u.u1 else u.u1
    u2 := if n = 2 then f u.u2 else u.u2
    u3 := if n = 3 then f u.u3 else u.u3
    u4 := if n = 4 then f u.u4 else u.u4
    u5 := if n = 5 then f u.u5 else u.u5
    u6 := if n = 6 then f u.u6 else u.u6
    u7 := if n = 7 then f u.u7 else u.u7 }

/-- All eight pattern shifter pairs cleared (R381, R385). -/
def SpriteUnits.clearShifters (u : SpriteUnits) : SpriteUnits :=
  u.mapBelow 8 fun e => { e with patLo := 0, patHi := 0 }

/-! ### Scroll (R377 to R380) -/

/-- Increment scroll X (R377). -/
def incrementScrollX (p : Ppu) : Ppu :=
  if p.renderingEnabled then
    if coarseX p.v = 31 then { p with v := setNametableX (!nametableX p.v) (setCoarseX 0 p.v) }
    else { p with v := setCoarseX (coarseX p.v + 1) p.v }
  else p

/-- Increment scroll Y (R378). -/
def incrementScrollY (p : Ppu) : Ppu :=
  if p.renderingEnabled then
    if (fineY p.v).toNat < 7 then { p with v := setFineY (fineY p.v + 1) p.v }
    else
      let v := setFineY 0 p.v
      if coarseY v = 29 then { p with v := setNametableY (!nametableY v) (setCoarseY 0 v) }
      else if coarseY v = 31 then { p with v := setCoarseY 0 v }
      else { p with v := setCoarseY (coarseY v + 1) v }
  else p

/-- The X transfer's copy from t to v (R379). -/
def transferX (p : Ppu) : Ppu :=
  if p.renderingEnabled then { p with v := setNametableX (nametableX p.t) (setCoarseX (coarseX p.t) p.v) } else p

/-- Transfer Y (R380). -/
def transferY (p : Ppu) : Ppu :=
  if p.renderingEnabled then
    { p with v := setFineY (fineY p.t) (setNametableY (nametableY p.t) (setCoarseY (coarseY p.t) p.v)) }
  else p

/-! ### Background fetches (R373 to R376, R382) -/

/-- The low byte of a shifter replaced (R376). -/
def loadLow (b : Byte) (w : Word) : Word := (w &&& 0xFF00) ||| b.setWidth 16

/-- Load the background shifters from the staged tile (R376). -/
def loadBgShifters (p : Ppu) : Ppu :=
  { p with
    bgPatLo := loadLow p.nextLo p.bgPatLo
    bgPatHi := loadLow p.nextHi p.bgPatHi
    bgAttrLo := loadLow (if p.nextAttr.getLsbD 0 then 0xFF else 0x00) p.bgAttrLo
    bgAttrHi := loadLow (if p.nextAttr.getLsbD 1 then 0xFF else 0x00) p.bgAttrHi }

/-- Fetch the nametable byte (R373, R382). -/
def fetchNametable (cart : Option Cartridge) (p : Ppu) : Ppu :=
  { p with nextId := ppuRead cart p (0x2000 ||| (p.v &&& 0x0FFF)) }

/-- The address of the attribute byte (R374). -/
def attributeAddr (v : Word) : Word :=
  0x23C0 ||| (v &&& 0x0C00) ||| (((coarseY v >>> 2).setWidth 16) <<< 3) ||| (coarseX v >>> 2).setWidth 16

/-- The quadrant of an attribute byte a tile takes (R374). -/
def attributeQuadrant (v : Word) (a : Byte) : BitVec 2 :=
  let a := if (coarseY v).getLsbD 1 then a >>> 4 else a
  let a := if (coarseX v).getLsbD 1 then a >>> 2 else a
  a.extractLsb' 0 2

/-- Fetch the attribute (R374). -/
def fetchAttribute (cart : Option Cartridge) (p : Ppu) : Ppu :=
  { p with nextAttr := attributeQuadrant p.v (ppuRead cart p (attributeAddr p.v)) }

/-- The pattern table a PATTERN bit selects. -/
def patternBase (half : Bool) : Word := if half then 0x1000 else 0x0000

/-- The address of the tile's low pattern byte (R375). -/
def bgPatternAddr (p : Ppu) : Word :=
  patternBase p.patternBg + (p.nextId.setWidth 16 <<< 4) + (fineY p.v).setWidth 16

/-- Fetch the low pattern byte (R373, R375). -/
def fetchPatternLo (cart : Option Cartridge) (p : Ppu) : Ppu := { p with nextLo := ppuRead cart p (bgPatternAddr p) }

/-- Fetch the high pattern byte (R373, R375). -/
def fetchPatternHi (cart : Option Cartridge) (p : Ppu) : Ppu :=
  { p with nextHi := ppuRead cart p (bgPatternAddr p + 8) }

/-! ### Shifters (R388) -/

/-- One step of a sprite unit: its x counts down, then its shifters shift (R388). -/
def SpriteUnit.step (e : SpriteUnit) : SpriteUnit :=
  if e.x = 0 then { e with patLo := e.patLo <<< 1, patHi := e.patHi <<< 1 } else { e with x := e.x - 1 }

/-- The background half of the shifter update (R388). -/
def shiftBackground (p : Ppu) : Ppu :=
  if p.renderBackground then
    { p with
      bgPatLo := p.bgPatLo <<< 1, bgPatHi := p.bgPatHi <<< 1
      bgAttrLo := p.bgAttrLo <<< 1, bgAttrHi := p.bgAttrHi <<< 1 }
  else p

/-- The sprite half of the shifter update (R388). -/
def shiftSprites (p : Ppu) : Ppu :=
  if p.renderSprites && decide (p.cycle < 258) then
    { p with sprites := p.sprites.mapBelow p.spriteCount SpriteUnit.step }
  else p

/-- `update_shifters` (R388). -/
def updateShifters (p : Ppu) : Ppu := shiftSprites (shiftBackground p)

/-- Process next tile (R373): the shifter update, then the phase of `(cycle - 1) % 8`. -/
def processTile (cart : Option Cartridge) (p : Ppu) : Ppu :=
  let p := updateShifters p
  match (p.cycle - 1) % 8 with
  | 0 => fetchNametable cart (loadBgShifters p)
  | 2 => fetchAttribute cart p
  | 4 => fetchPatternLo cart p
  | 6 => fetchPatternHi cart p
  | 7 => incrementScrollX p
  | _ => p

/-! ### Frame events (R381, R384) -/

/-- Pre-render clear (R381). -/
def preRenderClear (p : Ppu) : Ppu :=
  let p := ((p.setVerticalBlank false).setSpriteOverflow false).setSpriteZeroHit false
  { p with sprites := p.sprites.clearShifters }

/-- End of frame (R384). -/
def endOfFrame (p : Ppu) : Ppu :=
  let p := p.setVerticalBlank true
  if p.enableNmi then { p with nmiPending := true } else p

/-! ### Sprite evaluation (R385) -/

/-- The rows of a sprite, `H` (R385). -/
def Ppu.spriteRows (p : Ppu) : Int := if p.spriteSize then 16 else 8

/-- `OAM[4n + k]` (R54). -/
def Ppu.oamField (p : Ppu) (n k : Nat) : Byte := p.oamByte (BitVec.ofNat 8 (4 * n + k))

/-- Whether OAM entry `n` is on the line (R385: `0 <= scanline - y < H`). -/
def Ppu.spriteOnLine (p : Ppu) (n : Nat) : Bool :=
  let diff := p.scanline - (p.oamField n 0).toNat
  decide (0 ≤ diff) && decide (diff < p.spriteRows)

/-- Take OAM entry `n` into the buffer (R385). -/
def collectSprite (n : Nat) (p : Ppu) : Ppu :=
  { p with
    sprites := p.sprites.mapAt p.spriteCount fun e =>
      { e with y := p.oamField n 0, id := p.oamField n 1, attr := p.oamField n 2, x := p.oamField n 3 }
    sprite0Possible := p.sprite0Possible || decide (n = 0)
    spriteCount := p.spriteCount + 1 }

/-- The scan over OAM entries in order (R385): up to eight are taken, a ninth sets SPRITE_OVERFLOW and stops. -/
def scanOam : List Nat → Ppu → Ppu
  | [], p => p
  | n :: ns, p =>
    if p.spriteOnLine n then
      if p.spriteCount < 8 then scanOam ns (collectSprite n p) else p.setSpriteOverflow true
    else scanOam ns p

/-- `oam_evaluate` (R385). -/
def oamEvaluate (p : Ppu) : Ppu :=
  scanOam (List.range 64)
    { p with spriteCount := 0, sprite0Possible := false, sprites := p.sprites.clearShifters }

/-! ### Sprite fetch (R386) -/

/-- The address of the low pattern byte of a collected sprite (R386). `row` is `scanline - y`; the address arithmetic is
modulo 2^16, of which the PPU keeps 14 bits (log 12). -/
def spritePatternAddr (large : Bool) (half : Bool) (row : Int) (id attr : Byte) : Word :=
  let vflip := attr.getLsbD 7
  let r : Word := BitVec.ofInt 16 row
  if large then
    let top := decide (row < 8)
    let tile : Byte := if top != vflip then id &&& 0xFE else (id &&& 0xFE) + 1
    let r := if vflip then (7 - r) &&& 7 else r &&& 7
    patternBase (id.getLsbD 0) ||| (tile.setWidth 16 <<< 4) ||| r
  else
    let r := if vflip then 7 - r else r
    patternBase half ||| (id.setWidth 16 <<< 4) ||| r

/-- Fetch one unit's pattern bytes, reversed under horizontal flip (R386). -/
def fetchSprite (cart : Option Cartridge) (p : Ppu) (e : SpriteUnit) : SpriteUnit :=
  let addr := spritePatternAddr p.spriteSize p.patternSprite (p.scanline - e.y.toNat) e.id e.attr
  let flip := fun b => if e.attr.getLsbD 6 then rev8 b else b
  { e with patLo := flip (ppuRead cart p addr), patHi := flip (ppuRead cart p (addr + 8)) }

/-- `sprite_fetch` (R386). -/
def spriteFetch (cart : Option Cartridge) (p : Ppu) : Ppu :=
  { p with sprites := p.sprites.mapBelow p.spriteCount (fetchSprite cart p) }

/-! ### The tags (R372) -/

/-- Run an action where its tag matches. -/
def whenTag (here : Ppu → Bool) (act : Ppu → Ppu) (p : Ppu) : Ppu := if here p then act p else p

def Ppu.onVisibleLine (p : Ppu) : Bool := decide (0 ≤ p.scanline) && decide (p.scanline ≤ 239)

def Ppu.onRenderLine (p : Ppu) : Bool := decide (-1 ≤ p.scanline) && decide (p.scanline ≤ 239)

def Ppu.atPreRenderClear (p : Ppu) : Bool := decide (p.scanline = -1) && decide (p.cycle = 1)

def Ppu.atTransferY (p : Ppu) : Bool := decide (p.scanline = -1) && decide (280 ≤ p.cycle) && decide (p.cycle ≤ 304)

def Ppu.atProcessTile (p : Ppu) : Bool :=
  p.onRenderLine &&
    ((decide (2 ≤ p.cycle) && decide (p.cycle ≤ 257)) || (decide (321 ≤ p.cycle) && decide (p.cycle ≤ 337)))

def Ppu.atIncrementY (p : Ppu) : Bool := p.onVisibleLine && decide (p.cycle = 256)

def Ppu.atTransferX (p : Ppu) : Bool := p.onRenderLine && decide (p.cycle = 257)

def Ppu.atExtraFetch (p : Ppu) : Bool := p.onRenderLine && (decide (p.cycle = 338) || decide (p.cycle = 340))

def Ppu.atOamEvaluation (p : Ppu) : Bool := p.onVisibleLine && decide (p.cycle = 257)

def Ppu.atSpriteFetch (p : Ppu) : Bool := p.onVisibleLine && decide (p.cycle = 340)

def Ppu.atEndOfFrame (p : Ppu) : Bool := decide (p.scanline = 241) && decide (p.cycle = 1)

/-- The tag actions that match the position, in the order of R372's table. Its third, "render skip odd", is a no-op
(R383). No action moves the position. -/
def tagActions (cart : Option Cartridge) (p : Ppu) : Ppu :=
  let p := whenTag Ppu.atPreRenderClear preRenderClear p
  let p := whenTag Ppu.atTransferY transferY p
  let p := whenTag Ppu.atProcessTile (processTile cart) p
  let p := whenTag Ppu.atIncrementY incrementScrollY p
  let p := whenTag Ppu.atTransferX (fun p => transferX (loadBgShifters p)) p
  let p := whenTag Ppu.atExtraFetch (fetchNametable cart) p
  let p := whenTag Ppu.atOamEvaluation oamEvaluate p
  let p := whenTag Ppu.atSpriteFetch (spriteFetch cart) p
  whenTag Ppu.atEndOfFrame endOfFrame p

/-! ### Pixels (R390 to R394) -/

/-- A two-bit value from its high and low bit. -/
def twoBits (hi lo : Bool) : BitVec 2 := BitVec.ofBool hi ++ BitVec.ofBool lo

/-- The bit of a shifter the mask `0x8000 >> fine_x` selects (R390). -/
def Ppu.shifterBit (p : Ppu) (w : Word) : Bool := (w &&& ((0x8000 : Word) >>> p.fineX.toNat)) != 0

/-- The background pixel (R390). -/
def bgPixel (p : Ppu) : BitVec 2 :=
  if p.renderBackground then twoBits (p.shifterBit p.bgPatHi) (p.shifterBit p.bgPatLo) else 0

/-- The background palette (R390). -/
def bgPalette (p : Ppu) : BitVec 2 :=
  if p.renderBackground then twoBits (p.shifterBit p.bgAttrHi) (p.shifterBit p.bgAttrLo) else 0

/-- A sprite unit's pixel: the two MSBs of its shifters (R391). -/
def SpriteUnit.pixel (e : SpriteUnit) : BitVec 2 := twoBits (e.patHi.getLsbD 7) (e.patLo.getLsbD 7)

/-- The first unit at x = 0 with a non-zero pixel, with its index, in buffer order (R391). -/
def firstOpaque : Nat → List SpriteUnit → Option (Nat × SpriteUnit)
  | _, [] => none
  | i, e :: es => if e.x = 0 ∧ e.pixel ≠ 0 then some (i, e) else firstOpaque (i + 1) es

/-- The sprite that gives the sprite pixel, if any (R391). -/
def fgSprite (p : Ppu) : Option (Nat × SpriteUnit) :=
  if p.renderSprites then firstOpaque 0 (p.sprites.toList.take p.spriteCount) else none

/-- `sprite0_rendering` after the sprite pixel (R391): kept while RENDER_SPRITES is off. -/
def renderingSprite0 (p : Ppu) : Bool :=
  if p.renderSprites then
    match fgSprite p with
    | some (i, _) => decide (i = 0)
    | none => false
  else p.sprite0Rendering

/-- The first cycle at which a sprite-0 hit can be set (R392). -/
def Ppu.firstHitCycle (p : Ppu) : Nat := if p.renderBackgroundLeft && p.renderSpritesLeft then 1 else 9

/-- Palette and pixel of the output, three and two bits (R392). -/
def outputPixel (p : Ppu) : BitVec 3 × BitVec 2 :=
  let bg := bgPixel p
  let bgOut : BitVec 3 × BitVec 2 := ((bgPalette p).setWidth 3, bg)
  match fgSprite p with
  | none => if bg = 0 then (0, 0) else bgOut
  | some (_, e) =>
    let fgOut : BitVec 3 × BitVec 2 := ((e.attr.extractLsb' 0 2).setWidth 3 + 4, e.pixel)
    if bg = 0 then fgOut else if e.attr.getLsbD 5 then bgOut else fgOut

/-- Whether this pixel sets SPRITE_ZERO_HIT (R392); `sprite0_rendering` is the value the sprite pixel left. -/
def spriteZeroHits (p : Ppu) : Bool :=
  bgPixel p != 0 && (fgSprite p).isSome && p.sprite0Possible && renderingSprite0 p &&
    p.renderBackground && p.renderSprites && decide (p.firstHitCycle ≤ p.cycle) && decide (p.cycle < 258)

/-- The 6-bit colour index of the output (R394). -/
def colourIndex (cart : Option Cartridge) (p : Ppu) : BitVec 6 :=
  let o := outputPixel p
  let addr : Word := 0x3F00 + (o.1.setWidth 16 <<< 2) + o.2.setWidth 16
  (ppuRead cart p addr).extractLsb' 0 6

/-- The key of a pixel in `Ppu.fb` (R57). -/
def pixelKey (row : Nat) (column : Nat) : Nat := 256 * row + column

/-- Compose and store one pixel (R390 to R394). -/
def composePixel (cart : Option Cartridge) (p : Ppu) : Ppu :=
  { p with
    sprite0Rendering := renderingSprite0 p
    status := if spriteZeroHits p then setBit 6 true p.status else p.status
    fb := p.fb.write Config.frameBufferInit (pixelKey p.scanline.toNat (p.cycle - 1))
      (Config.paletteArgb (colourIndex cart p)) }

/-- A visible position (R393). -/
def Ppu.atVisiblePixel (p : Ppu) : Bool := p.onVisibleLine && decide (1 ≤ p.cycle) && decide (p.cycle ≤ 256)

/-! ### The clock (R372, R389) -/

/-- Advance (R389). -/
def advance (p : Ppu) : Ppu :=
  if p.cycle + 1 ≥ 341 then
    if p.scanline + 1 ≥ 261 then { p with cycle := 0, scanline := -1, frameComplete := true }
    else { p with cycle := 0, scanline := p.scanline + 1 }
  else { p with cycle := p.cycle + 1 }

/-- One PPU clock (R372). -/
def ppuClock (cart : Option Cartridge) (p : Ppu) : Ppu :=
  advance (whenTag Ppu.atVisiblePixel (composePixel cart) (tagActions cart p))

end Sys2Proof.Machine
end

