-- ==== Sys2Proof/Machine/Tick.lean ====
section
/-! DEFINITION. The master tick (R340 to R342): the PPU clock, the CPU slot with the CPU's clock (R170, R172) or the DMA
engine's (R351), and the NMI phase (R331, R395). -/

namespace Sys2Proof.Machine

/-- Go on from a next state; a stop stays. -/
def onNext (o : Host.Outcome State Fault Refusal) (f : State → State) : Host.Outcome State Fault Refusal :=
  match o with
  | .next s => .next (f s)
  | .fault r => .fault r
  | .refused r => .refused r

/-! ### The CPU clock -/

/-- `cycles <- cycles - 1` (R170, R172). -/
def countDown (s : State) : State := s.setCycles (s.cpu.cycles - 1)

/-- The dispatch clock (R170): fetch, run, count down. -/
def dispatchClock (s : State) : Host.Outcome State Fault Refusal :=
  let f := fetch s
  onNext (exec f.1 f.2) countDown

/-- `cpu_clock` (R170, R172). -/
def cpuClock (s : State) : Host.Outcome State Fault Refusal :=
  if s.cpu.cycles = 0 then dispatchClock s else .next (countDown s)

/-- `is_instruction_complete()` (R173). -/
def State.instructionComplete (s : State) : Bool := decide (s.cpu.cycles = 0)

/-! ### The DMA engine's clock -/

/-- The write half of a DMA pair (R351): the byte goes to `OAM[dma_offset]`, and the transfer ends as the offset wraps. -/
def dmaStore (s : State) : State :=
  let offset := s.dma.offset + 1
  { s with
    ppu := s.ppu.setOamByte s.dma.offset s.dma.data
    dma :=
      if offset = 0 then { s.dma with offset := offset, inProgress := false, waiting := true }
      else { s.dma with offset := offset } }

/-- `dma_clock` (R351), in the tick numbered `ticks`. -/
def dmaClock (s : State) : State :=
  if s.dma.waiting then
    if s.ticks % 2 = 1 then { s with dma := { s.dma with waiting := false } } else s
  else if s.ticks % 2 = 0 then
    let r := memRead (wordOf s.dma.offset s.dma.page) s
    { r.2 with dma := { r.2.dma with data := r.1 } }
  else dmaStore s

/-! ### The three phases -/

/-- Phase 1: the tick is counted and the PPU is clocked once (R340). -/
def ppuPhase (s : State) : State := { s with ticks := s.ticks + 1, ppu := ppuClock s.cart s.ppu }

/-- Phase 2: every third tick is a CPU slot, the DMA engine's while a transfer is in progress (R340, R341). -/
def slotPhase (s : State) : Host.Outcome State Fault Refusal :=
  if s.ticks % 3 = 0 then
    if s.dma.inProgress then .next (dmaClock s) else cpuClock s
  else .next s

/-- Phase 3: the NMI latch is taken and cleared (R342, R395), whatever `cycles` and the DMA engine do. -/
def nmiPhase (s : State) : State :=
  if s.ppu.nmiPending then cpuNmi { s with ppu := { s.ppu with nmiPending := false } } else s

/-- One master tick (R340). -/
def masterTick (s : State) : Host.Outcome State Fault Refusal := onNext (slotPhase (ppuPhase s)) nmiPhase

end Sys2Proof.Machine
end

