-- ==== Sys2Proof/Machine/Step.lean ====
section
/-! DEFINITION. One step: one master tick (R11, R340). -/

namespace Sys2Proof.Machine

/-- One master tick, refused before the host's `reset` (R451; log 13). -/
def step (s : State) : Host.Outcome State Fault Refusal :=
  if s.ready then masterTick s else .refused .clockBeforeReset

/-- The state with an instruction placed where the next step fetches: its bytes at PC, and the machine about to dispatch
in its next tick (log 1). -/
def State.withFetchWord (s : State) (nbits w : Nat) : State :=
  (s.placeInstr (tableByte nbits w 0) (tableByte nbits w 1) (tableByte nbits w 2)).aboutToDispatch

end Sys2Proof.Machine
end

