-- ==== Sys2Proof/Machine/HostOps.lean ====
section
/-! DEFINITION. The host operations (R453): reset, cartridge insertion, the frame step, the controller functions and the
accessors. They act between master ticks. -/

namespace Sys2Proof.Machine

/-! ### Reset (R450) -/

/-- The PPU after `reset`: OAM, the nametables, the palette, the pattern pages, the frame buffer and the scanline buffer's
entries keep their contents (R450). -/
def ppuReset (position : Int × Nat) (p : Ppu) : Ppu :=
  { Ppu.powerOn position with
    oam := p.oam, sprites := p.sprites.clearShifters, nt := p.nt, pal := p.pal, pt := p.pt, fb := p.fb }

/-- `host_reset` (R450), with PPU_RESET_POSITION as its argument (R6). RAM and the cartridge stay. -/
def hostReset (position : Int × Nat) (s : State) : State :=
  let r := memRead16 resetVector (resetVector + 1) s
  { r.2 with
    cpu := .reset r.1, ppu := ppuReset position r.2.ppu, dma := .reset, pads := .reset, ticks := 0, ready := true }

/-! ### The cartridge (R61, R90 to R94, R108, R453) -/

/-- The mirroring modes a cartridge object can name (R94). -/
inductive MirroringMode where
  | horizontal
  | vertical
  | onescreenLo
  | onescreenHi
deriving DecidableEq, Repr

/-- A cartridge object the host hands over: header fields and ROM arrays (R61). -/
structure CartridgeImage where
  mirroring : MirroringMode
  prgBanks  : Nat
  chrBanks  : Nat
  mapperId  : Byte
  trainer   : Bool
  prgRom    : List Byte
  chrRom    : List Byte
deriving DecidableEq, Repr

/-- The header fields the CORE consumes, from bytes 4 to 7 of an iNES header (R108), beside the ROM arrays the external
loader hands over. -/
def CartridgeImage.ofHeader (b4 b5 b6 b7 : Byte) (prgRom chrRom : List Byte) : CartridgeImage :=
  { mirroring := if b6.getLsbD 0 then .vertical else .horizontal
    prgBanks := b4.toNat, chrBanks := b5.toNat
    mapperId := (b7 &&& 0xF0) ||| (b6 >>> 4)
    trainer := b6.getLsbD 2, prgRom := prgRom, chrRom := chrRom }

/-- The mirroring of a cartridge mapper 0 accepts (R94). -/
def MirroringMode.accepted : MirroringMode → Except Refusal Mirroring
  | .horizontal => .ok .horizontal
  | .vertical => .ok .vertical
  | .onescreenLo | .onescreenHi => .error .onescreenMirroring

/-- The PRG bank count of a cartridge mapper 0 accepts (R90). -/
def prgBanksAccepted (n : Nat) : Except Refusal PrgBanks :=
  if n = 1 then .ok .one else if n = 2 then .ok .two else .error .prgBankCount

/-- The CHR bank count of a cartridge mapper 0 accepts (R92). -/
def chrBanksAccepted (n : Nat) : Except Refusal ChrBanks := if n = 1 then .ok .one else .error .chrBankCount

/-- The mapper id the machine accepts (R61). -/
def mapperAccepted (id : Byte) : Except Refusal Mapper := if id = 0 then .ok .nrom else .error .mapperNotSupported

/-- The cartridge an image makes, or why it is refused (R453). -/
def CartridgeImage.toCartridge (c : CartridgeImage) : Except Refusal Cartridge :=
  match mapperAccepted c.mapperId, c.mirroring.accepted, prgBanksAccepted c.prgBanks, chrBanksAccepted c.chrBanks with
  | .ok mapper, .ok mirroring, .ok prg, .ok chr =>
    if c.prgRom.length = prg.bytes ∧ c.chrRom.length = chr.bytes then
      .ok { mirroring := mirroring, prgBanks := prg, chrBanks := chr, mapper := mapper, trainer := c.trainer
            prgRom := .ofBytes c.prgRom, chrRom := .ofBytes c.chrRom }
    else .error .romLength
  | .error r, _, _, _ => .error r
  | _, .error r, _, _ => .error r
  | _, _, .error r, _ => .error r
  | _, _, _, .error r => .error r

/-- `insert_cartridge` (R453): no other state of the machine changes, and a `reset` must follow (R451). -/
def insertCartridge (c : CartridgeImage) (s : State) : Host.Outcome State Fault Refusal :=
  match c.toCartridge with
  | .ok cart => .next { s with cart := some cart, ready := false }
  | .error r => .refused r

/-- `is_cartridge_loaded` (R60). -/
def State.isCartridgeLoaded (s : State) : Bool := s.cart.isSome

/-! ### The controller functions (R358) -/

/-- The port a controller index names. -/
def controllerPort (idx : Nat) : Except Refusal Bool :=
  if idx = 0 then .ok false else if idx = 1 then .ok true else .error .controllerIndex

/-- `write_controller` (R358). -/
def writeController (idx : Nat) (mask : Byte) (s : State) : Host.Outcome State Fault Refusal :=
  match controllerPort idx with
  | .ok port => .next { s with pads := s.pads.setInput port (s.pads.input port ||| mask) }
  | .error r => .refused r

/-- `clear_controller` (R358). -/
def clearController (idx : Nat) (s : State) : Host.Outcome State Fault Refusal :=
  match controllerPort idx with
  | .ok port => .next { s with pads := s.pads.setInput port 0 }
  | .error r => .refused r

/-- `get_controller` (R358). -/
def getController (idx : Nat) (s : State) : Except Refusal Byte :=
  match controllerPort idx with
  | .ok port => .ok (s.pads.input port)
  | .error r => .error r

/-! ### Clock, frame step and accessors (R453, R454) -/

/-- `clock` (R453). -/
def hostClock (s : State) : Host.Outcome State Fault Refusal := step s

/-- `system_clock_counter` (R343). -/
def State.systemClockCounter (s : State) : Nat := s.ticks

/-- The frame-complete accessor (R453). -/
def State.frameIsComplete (s : State) : Bool := s.ppu.frameComplete

/-- The frame buffer accessor (R453): the word of one pixel. -/
def State.pixel (row column : Nat) (s : State) : BitVec 32 := s.ppu.fb.read Config.frameBufferInit (pixelKey row column)

/-- `repeat console_clock() until done`, at most `fuel` ticks; `none` where they do not suffice (log 15). -/
def clockUntil (done : State → Bool) : Nat → State → Option (Host.Outcome State Fault Refusal)
  | 0, _ => none
  | fuel + 1, s =>
    match step s with
    | .next t => if done t then some (.next t) else clockUntil done fuel t
    | stop => some stop

/-- The drain loop of `do_frame` (R454): test first, at most `fuel` ticks. -/
def drainInstruction (fuel : Nat) (s : State) : Option (Host.Outcome State Fault Refusal) :=
  if s.instructionComplete then some (.next s) else clockUntil State.instructionComplete fuel s

/-- `do_frame` (R454), each of its two loops given at most `fuel` ticks. -/
def doFrame (fuel : Nat) (s : State) : Option (Host.Outcome State Fault Refusal) :=
  match clockUntil State.frameIsComplete fuel s with
  | some (.next t) =>
    (drainInstruction fuel t).map (onNext · fun u => { u with ppu := { u.ppu with frameComplete := false } })
  | stop => stop

end Sys2Proof.Machine
end

