-- ==== Sys2Proof/Safety.lean ====
section
/-! DEFINITION. The terms claims are stated in: the invariant of the machine, what a run of ticks is, what a frame keeps,
how an instruction's row reads. -/

namespace Sys2Proof.Machine

/-! ### The invariant -/

/-- A memory in canonical form, with no entry at or above its size. -/
abbrev Memory.sound {α : Type} (dflt : Nat → α) (size : Nat) (m : Memory α) : Prop := m.wf dflt ∧ m.below size

/-- What every master tick keeps. -/
structure State.Inv (s : State) : Prop where
  /-- The eight memories are canonical and as large as the spec says (R54, R55, R57, R59, R61). -/
  ram          : s.ram.sound zeroByte 0x800
  oam          : s.ppu.oam.sound Config.oamInit 0x100
  nametables   : s.ppu.nt.sound Config.vramInit 0x800
  palette      : s.ppu.pal.sound Config.paletteInit 0x20
  patterns     : s.ppu.pt.sound Config.patternInit 0x2000
  frameBuffer  : s.ppu.fb.sound Config.frameBufferInit 61440
  prgRom       : ∀ c, s.cart = some c → c.prgRom.sound zeroByte c.prgBanks.bytes
  chrRom       : ∀ c, s.cart = some c → c.chrRom.sound zeroByte c.chrBanks.bytes
  /-- The position stays on the frame (R56). -/
  scanlineLow  : -1 ≤ s.ppu.scanline
  scanlineHigh : s.ppu.scanline ≤ 260
  cycle        : s.ppu.cycle ≤ 340
  /-- At most eight sprites on a line (R54). -/
  spriteCount  : s.ppu.spriteCount ≤ 8
  /-- Bits 4 to 0 of STATUS are never written (R50). -/
  statusLow    : ∀ k < 5, s.ppu.status.getLsbD k = false
  /-- B is 0 and U is 1 at every instruction boundary (R39, R40). -/
  flagB        : getFlag .b s.cpu.p = false
  flagU        : getFlag .u s.cpu.p = true
  /-- The count left is at most that of the longest sequence (R45, R454). -/
  cycles       : s.cpu.cycles ≤ max 8 Config.illegalOpcodeClocks
  /-- An idle DMA engine waits, at offset 0 (R58, R350, R351). -/
  dmaIdle      : s.dma.inProgress = false → s.dma.waiting = true ∧ s.dma.offset = 0
  /-- A transfer that still waits is at offset 0 (R350, R351). -/
  dmaWaiting   : s.dma.waiting = true → s.dma.offset = 0

/-! ### Runs -/

/-- `n` master ticks. -/
def run : Nat → State → Host.Outcome State Fault Refusal
  | 0, s => .next s
  | n + 1, s =>
    match step s with
    | .next t => run n t
    | stop => stop

/-- Instructions executed one after another, each at the state the last one left. -/
def execAll : List Instr → State → Host.Outcome State Fault Refusal
  | [], s => .next s
  | i :: is, s =>
    match exec i s with
    | .next t => execAll is t
    | stop => stop

/-- `n` reads of one address, with their side effects: the values in order, and the state after. -/
def readTimes : Nat → Word → State → List Byte × State
  | 0, _, s => ([], s)
  | n + 1, a, s =>
    let r := memRead a s
    let rest := readTimes n a r.2
    (r.1 :: rest.1, rest.2)

/-- The PPU's place in its frame of 89342 cycles, counted from (-1, 0) (R389). -/
def Ppu.framePlace (p : Ppu) : Nat := (p.scanline + 1).toNat * 341 + p.cycle

/-- The PPU's position is on the frame (R56). -/
def Ppu.positionOk (p : Ppu) : Prop := -1 ≤ p.scanline ∧ p.scanline ≤ 260 ∧ p.cycle ≤ 340

/-! ### Reading without side effects -/

/-- The byte a host peek reads (R88). -/
def State.peek (a : Word) (s : State) : Byte := (cpuRead true a s).1

/-- The addresses of plain memory: RAM and PRG ROM. -/
def isMemory (a : Word) : Bool := decide (a.toNat < 0x2000) || decide (0x8000 ≤ a.toNat)

/-! ### Frames -/

/-- Everything outside the CPU is the same. -/
structure OutsideCpuSame (u t : State) : Prop where
  ppu   : t.ppu = u.ppu
  dma   : t.dma = u.dma
  ram   : t.ram = u.ram
  pads  : t.pads = u.pads
  cart  : t.cart = u.cart
  ticks : t.ticks = u.ticks
  ready : t.ready = u.ready

/-- Every byte of plain memory, of OAM and of the PPU's memories reads as before. -/
structure MemoriesSame (s t : State) : Prop where
  cpu      : ∀ a, isMemory a = true → t.peek a = s.peek a
  oam      : ∀ a, t.ppu.oamByte a = s.ppu.oamByte a
  ppu      : ∀ a, ppuRead t.cart t.ppu a = ppuRead s.cart s.ppu a
  patterns : t.ppu.pt = s.ppu.pt
  pixels   : ∀ row column, t.pixel row column = s.pixel row column

/-- One byte was stored by the CPU (R82, R91): RAM, the PPU's registers, the DMA engine and the controller ports are `u`'s
but for what that store does to the one it selects; every other byte of RAM is as it was. -/
structure StoredByte (addr : Word) (d : Byte) (u t : State) : Prop where
  stored : u.ram.wf zeroByte → addr.toNat ≤ 0x1FFF → t.ramByte addr = d
  kept   : ∀ a, 0x1FFF < addr.toNat ∨ a.toNat % 0x800 ≠ addr.toNat % 0x800 → t.ramByte a = u.ramByte a
  ppu    : t.ppu =
    if 0x2000 ≤ addr.toNat ∧ addr.toNat ≤ 0x3FFF then ppuRegWrite u.cart (ppuReg addr) d u.ppu else u.ppu
  dma    : t.dma = if addr = 0x4014 then dmaStart d u.dma else u.dma
  pads   : t.pads = if addr = 0x4016 ∨ addr = 0x4017 then padStrobe (addr.getLsbD 0) u.pads else u.pads
  cart   : t.cart = u.cart
  ticks  : t.ticks = u.ticks
  ready  : t.ready = u.ready

/-- Bytes were pushed, the first of the list first (R32): each is in page 1 where S then pointed, S has moved down past
them, every other byte of RAM is as it was, and nothing else outside the CPU changed. -/
structure PushedBytes (bytes : List Byte) (u t : State) : Prop where
  sp     : t.cpu.sp = u.cpu.sp - BitVec.ofNat 8 bytes.length
  stored : u.ram.wf zeroByte → ∀ k b, bytes[k]? = some b → t.ramByte (stackAddr (u.cpu.sp - BitVec.ofNat 8 k)) = b
  kept   : ∀ a, (∀ k < bytes.length, a.toNat % 0x800 ≠ 0x100 + (u.cpu.sp - BitVec.ofNat 8 k).toNat) →
    t.ramByte a = u.ramByte a
  ppu    : t.ppu = u.ppu
  dma    : t.dma = u.dma
  pads   : t.pads = u.pads
  cart   : t.cart = u.cart
  ticks  : t.ticks = u.ticks
  ready  : t.ready = u.ready

/-- A, X, Y and S are the same. -/
def RegistersSame (s t : State) : Prop :=
  t.cpu.a = s.cpu.a ∧ t.cpu.x = s.cpu.x ∧ t.cpu.y = s.cpu.y ∧ t.cpu.sp = s.cpu.sp

/-- The address after an instruction that starts at PC (R33). -/
def pcAfter (i : Instr) (s : State) : Word := s.cpu.pc + BitVec.ofNat 16 i.mode.length

/-- The per-instruction registers after an instruction (R44, R170): the opcode byte, what its resolver left, whether the
page penalty can apply. -/
structure Dispatched (i : Instr) (eligible : Bool) (s t : State) : Prop where
  opcode          : t.cpu.opcode = i.row.opcode
  absAddr         : t.cpu.absAddr = (prepare i s).cpu.absAddr
  relAddr         : t.cpu.relAddr = (prepare i s).cpu.relAddr
  pageCrossed     : t.cpu.pageCrossed = (prepare i s).cpu.pageCrossed
  penaltyEligible : t.cpu.penaltyEligible = eligible

/-- The count an instruction other than a branch leaves before the dispatch clock's own decrement (R170, R176). -/
def clocks (i : Instr) (eligible : Bool) (s : State) : Nat :=
  i.row.baseCycles + if (prepare i s).cpu.pageCrossed && eligible then 1 else 0

/-- What a shift or rotate makes of its operand and the old carry, as numbers: the result and the new carry
(R261 to R264). -/
def shifted (n : Mnemonic) (c : Bool) (m : Byte) : Nat × Bool :=
  match n with
  | .asl => (2 * m.toNat % 256, decide (128 ≤ m.toNat))
  | .lsr => (m.toNat / 2, decide (m.toNat % 2 = 1))
  | .rol => ((2 * m.toNat + c.toNat) % 256, decide (128 ≤ m.toNat))
  | _ => (m.toNat / 2 + 128 * c.toNat, decide (m.toNat % 2 = 1))

/-- The flag each branch tests and the value it is taken on (R271 to R278). -/
def branchTest : Mnemonic → Option (Flag × Bool)
  | .bcc => some (.c, false)
  | .bcs => some (.c, true)
  | .beq => some (.z, true)
  | .bmi => some (.n, true)
  | .bne => some (.z, false)
  | .bpl => some (.n, false)
  | .bvc => some (.v, false)
  | .bvs => some (.v, true)
  | _ => none

/-- The flag each flag instruction writes, and its value (R310 to R316). -/
def flagWritten : Instr → Option (Flag × Bool)
  | .clc => some (.c, false)
  | .sec => some (.c, true)
  | .cld => some (.d, false)
  | .sed => some (.d, true)
  | .cli => some (.i, false)
  | .sei => some (.i, true)
  | .clv => some (.v, false)
  | _ => none

/-! ### Rows -/

/-- The names of the addressing modes (R141). -/
inductive ModeName where
  | imp | acc | imm | zp0 | zpx | zpy | abs | abx | aby | ind | izx | izy | rel
deriving DecidableEq, Repr

/-- The name of a mode. -/
def modeName : Mode → ModeName
  | .imp => .imp
  | .acc => .acc
  | .imm _ => .imm
  | .zp0 _ => .zp0
  | .zpx _ => .zpx
  | .zpy _ => .zpy
  | .abs _ => .abs
  | .abx _ => .abx
  | .aby _ => .aby
  | .ind _ => .ind
  | .izx _ => .izx
  | .izy _ => .izy
  | .rel _ => .rel

/-- How a rule of the spec gives a form: mode, opcode byte, length in bytes, base count. -/
def formOf (i : Instr) : ModeName × Byte × Nat × Nat :=
  (modeName i.mode, i.row.opcode, (encode i).length, i.row.baseCycles)

/-- The forms of each mnemonic, as R146 lists them; those of the illegal stub are R147's bytes (R318). -/
def specForms : Mnemonic → List (ModeName × Byte × Nat × Nat)
  | .adc => [(.izx, 0x61, 2, 6), (.zp0, 0x65, 2, 3), (.imm, 0x69, 2, 2), (.abs, 0x6D, 3, 4), (.izy, 0x71, 2, 5),
      (.zpx, 0x75, 2, 4), (.aby, 0x79, 3, 4), (.abx, 0x7D, 3, 4)]
  | .and => [(.izx, 0x21, 2, 6), (.zp0, 0x25, 2, 3), (.imm, 0x29, 2, 2), (.abs, 0x2D, 3, 4), (.izy, 0x31, 2, 5),
      (.zpx, 0x35, 2, 4), (.aby, 0x39, 3, 4), (.abx, 0x3D, 3, 4)]
  | .asl => [(.zp0, 0x06, 2, 5), (.acc, 0x0A, 1, 2), (.abs, 0x0E, 3, 6), (.zpx, 0x16, 2, 6), (.abx, 0x1E, 3, 7)]
  | .bcc => [(.rel, 0x90, 2, 2)]
  | .bcs => [(.rel, 0xB0, 2, 2)]
  | .beq => [(.rel, 0xF0, 2, 2)]
  | .bit => [(.zp0, 0x24, 2, 3), (.abs, 0x2C, 3, 4)]
  | .bmi => [(.rel, 0x30, 2, 2)]
  | .bne => [(.rel, 0xD0, 2, 2)]
  | .bpl => [(.rel, 0x10, 2, 2)]
  | .brk => [(.imp, 0x00, 1, 7)]
  | .bvc => [(.rel, 0x50, 2, 2)]
  | .bvs => [(.rel, 0x70, 2, 2)]
  | .clc => [(.imp, 0x18, 1, 2)]
  | .cld => [(.imp, 0xD8, 1, 2)]
  | .cli => [(.imp, 0x58, 1, 2)]
  | .clv => [(.imp, 0xB8, 1, 2)]
  | .cmp => [(.izx, 0xC1, 2, 6), (.zp0, 0xC5, 2, 3), (.imm, 0xC9, 2, 2), (.abs, 0xCD, 3, 4), (.izy, 0xD1, 2, 5),
      (.zpx, 0xD5, 2, 4), (.aby, 0xD9, 3, 4), (.abx, 0xDD, 3, 4)]
  | .cpx => [(.imm, 0xE0, 2, 2), (.zp0, 0xE4, 2, 3), (.abs, 0xEC, 3, 4)]
  | .cpy => [(.imm, 0xC0, 2, 2), (.zp0, 0xC4, 2, 3), (.abs, 0xCC, 3, 4)]
  | .dec => [(.zp0, 0xC6, 2, 5), (.abs, 0xCE, 3, 6), (.zpx, 0xD6, 2, 6), (.abx, 0xDE, 3, 7)]
  | .dex => [(.imp, 0xCA, 1, 2)]
  | .dey => [(.imp, 0x88, 1, 2)]
  | .eor => [(.izx, 0x41, 2, 6), (.zp0, 0x45, 2, 3), (.imm, 0x49, 2, 2), (.abs, 0x4D, 3, 4), (.izy, 0x51, 2, 5),
      (.zpx, 0x55, 2, 4), (.aby, 0x59, 3, 4), (.abx, 0x5D, 3, 4)]
  | .inc => [(.zp0, 0xE6, 2, 5), (.abs, 0xEE, 3, 6), (.zpx, 0xF6, 2, 6), (.abx, 0xFE, 3, 7)]
  | .inx => [(.imp, 0xE8, 1, 2)]
  | .iny => [(.imp, 0xC8, 1, 2)]
  | .jmp => [(.abs, 0x4C, 3, 3), (.ind, 0x6C, 3, 5)]
  | .jsr => [(.abs, 0x20, 3, 6)]
  | .lda => [(.izx, 0xA1, 2, 6), (.zp0, 0xA5, 2, 3), (.imm, 0xA9, 2, 2), (.abs, 0xAD, 3, 4), (.izy, 0xB1, 2, 5),
      (.zpx, 0xB5, 2, 4), (.aby, 0xB9, 3, 4), (.abx, 0xBD, 3, 4)]
  | .ldx => [(.imm, 0xA2, 2, 2), (.zp0, 0xA6, 2, 3), (.abs, 0xAE, 3, 4), (.zpy, 0xB6, 2, 4), (.aby, 0xBE, 3, 4)]
  | .ldy => [(.imm, 0xA0, 2, 2), (.zp0, 0xA4, 2, 3), (.abs, 0xAC, 3, 4), (.zpx, 0xB4, 2, 4), (.abx, 0xBC, 3, 4)]
  | .lsr => [(.zp0, 0x46, 2, 5), (.acc, 0x4A, 1, 2), (.abs, 0x4E, 3, 6), (.zpx, 0x56, 2, 6), (.abx, 0x5E, 3, 7)]
  | .nop => [(.imp, 0xEA, 1, 2)]
  | .ora => [(.izx, 0x01, 2, 6), (.zp0, 0x05, 2, 3), (.imm, 0x09, 2, 2), (.abs, 0x0D, 3, 4), (.izy, 0x11, 2, 5),
      (.zpx, 0x15, 2, 4), (.aby, 0x19, 3, 4), (.abx, 0x1D, 3, 4)]
  | .pha => [(.imp, 0x48, 1, 3)]
  | .php => [(.imp, 0x08, 1, 3)]
  | .pla => [(.imp, 0x68, 1, 4)]
  | .plp => [(.imp, 0x28, 1, 4)]
  | .rol => [(.zp0, 0x26, 2, 5), (.acc, 0x2A, 1, 2), (.abs, 0x2E, 3, 6), (.zpx, 0x36, 2, 6), (.abx, 0x3E, 3, 7)]
  | .ror => [(.zp0, 0x66, 2, 5), (.acc, 0x6A, 1, 2), (.abs, 0x6E, 3, 6), (.zpx, 0x76, 2, 6), (.abx, 0x7E, 3, 7)]
  | .rti => [(.imp, 0x40, 1, 6)]
  | .rts => [(.imp, 0x60, 1, 6)]
  | .sbc => [(.izx, 0xE1, 2, 6), (.zp0, 0xE5, 2, 3), (.imm, 0xE9, 2, 2), (.abs, 0xED, 3, 4), (.izy, 0xF1, 2, 5),
      (.zpx, 0xF5, 2, 4), (.aby, 0xF9, 3, 4), (.abx, 0xFD, 3, 4)]
  | .sec => [(.imp, 0x38, 1, 2)]
  | .sed => [(.imp, 0xF8, 1, 2)]
  | .sei => [(.imp, 0x78, 1, 2)]
  | .sta => [(.izx, 0x81, 2, 6), (.zp0, 0x85, 2, 3), (.abs, 0x8D, 3, 4), (.izy, 0x91, 2, 6), (.zpx, 0x95, 2, 4),
      (.aby, 0x99, 3, 5), (.abx, 0x9D, 3, 5)]
  | .stx => [(.zp0, 0x86, 2, 3), (.abs, 0x8E, 3, 4), (.zpy, 0x96, 2, 4)]
  | .sty => [(.zp0, 0x84, 2, 3), (.abs, 0x8C, 3, 4), (.zpx, 0x94, 2, 4)]
  | .tax => [(.imp, 0xAA, 1, 2)]
  | .tay => [(.imp, 0xA8, 1, 2)]
  | .tsx => [(.imp, 0xBA, 1, 2)]
  | .txa => [(.imp, 0x8A, 1, 2)]
  | .txs => [(.imp, 0x9A, 1, 2)]
  | .tya => [(.imp, 0x98, 1, 2)]
  | .illegal => illegalOpcodes.map fun b => (.imp, b, 1, Config.illegalOpcodeClocks)

end Sys2Proof.Machine
end

