-- ==== Sys2Proof/Certificates/Slice0/Obligations.lean ====
section
/-! DEFINITION. The statements for the provers. In the statements about an instruction, `r` is its operand read (R174): the
byte M and the state after that read; the instruction's bytes are already fetched (R171, log 3), and `prepare` has run its
resolver. -/

section
open Sys2Proof Sys2Proof.Machine

/-! ### Encoding -/

/-- Decoding what was encoded gives the instruction back, whatever bytes follow (R140 to R142). -/
def Obligations.DecodeOfEncode : Prop :=
  ∀ (i : Instr) (rest : List Byte), i.wf = true → decode (encode i ++ rest) = .ok (i, rest)

/-- What decodes is the encoding of a well-formed instruction followed by the bytes left over. -/
def Obligations.DecodedBytesAreAnEncoding : Prop :=
  ∀ (bytes : List Byte) (i : Instr) (rest : List Byte),
    decode bytes = .ok (i, rest) → i.wf = true ∧ bytes = encode i ++ rest

/-- The opcode table: every well-formed instruction has a form its mnemonic's row of R146 lists, every listed form's
opcode byte decodes to an instruction of that mnemonic and form, and each of the 105 bytes of R147 decodes to the one-byte
stub. -/
def Obligations.OpcodeTable : Prop :=
  (∀ i : Instr, i.wf = true → formOf i ∈ specForms i.mnemonic) ∧
  (∀ n : Mnemonic, n ≠ .illegal → ∀ form ∈ specForms n,
    (assemble form.2.1 0 0).mnemonic = n ∧ formOf (assemble form.2.1 0 0) = form) ∧
  illegalOpcodes.length = 105 ∧ illegalOpcodes.Nodup ∧
  ∀ b ∈ illegalOpcodes, ∀ rest, decode (b :: rest) = .ok (.illegal b, rest)

/-- Words written out from the spec's encodings, low byte first, decode to the instructions they stand for. -/
def Obligations.OpcodeWordsDecode : Prop :=
  decodeTableWord 16 0x00A9 = some (.ldaImm 0x00) ∧
  decodeTableWord 24 0x12F0BD = some (.ldaAbx 0x12F0) ∧
  decodeTableWord 24 0x20068C = some (.styAbs 0x2006) ∧
  decodeTableWord 8 0xAA = some .tax ∧
  decodeTableWord 16 0x5069 = some (.adcImm 0x50) ∧
  decodeTableWord 16 0x1024 = some (.bitZp0 0x10) ∧
  decodeTableWord 8 0x0A = some .aslAcc ∧
  decodeTableWord 16 0xFED0 = some (.bne 0xFE) ∧
  decodeTableWord 16 0x20C9 = some (.cmpImm 0x20) ∧
  decodeTableWord 24 0x12FF6C = some (.jmpInd 0x12FF) ∧
  decodeTableWord 24 0x900020 = some (.jsr 0x9000) ∧
  decodeTableWord 8 0x00 = some .brk ∧
  decodeTableWord 8 0x08 = some .php ∧
  decodeTableWord 8 0xF8 = some .sed ∧
  decodeTableWord 8 0x02 = some (.illegal 0x02)

/-! ### Reset and the invariant -/

/-- The host's reset (R450): the CPU, the PPU's registers, pipeline and frame state, the DMA engine, the ports and the
tick counter at their values, PC the word at 0xFFFC; RAM, OAM, the nametables, the palette, the pattern pages, the frame
buffer and the cartridge as they were. -/
def Obligations.HostReset : Prop :=
  ∀ (position : Int × Nat) (s : State),
    let t := hostReset position s
    t.cpu = { a := 0, x := 0, y := 0, sp := 0xFD, p := 0x20, cycles := 8, opcode := 0, absAddr := 0, relAddr := 0,
              pageCrossed := false, penaltyEligible := false,
              pc := wordOf (s.peek 0xFFFC) (s.peek 0xFFFD) } ∧
    (t.ppu.ctrl, t.ppu.mask, t.ppu.status, t.ppu.oamAddr) = (0, 0, 0, 0) ∧
    (t.ppu.v, t.ppu.t, t.ppu.fineX, t.ppu.w, t.ppu.dataBuffer) = (0, 0, 0, false, 0) ∧
    (t.ppu.bgPatLo, t.ppu.bgPatHi, t.ppu.bgAttrLo, t.ppu.bgAttrHi) = (0, 0, 0, 0) ∧
    (t.ppu.nextId, t.ppu.nextAttr, t.ppu.nextLo, t.ppu.nextHi) = (0, 0, 0, 0) ∧
    t.ppu.spriteCount = 0 ∧ t.ppu.sprite0Possible = false ∧ t.ppu.sprite0Rendering = false ∧
    (∀ e ∈ t.ppu.sprites.toList, e.patLo = 0 ∧ e.patHi = 0) ∧
    (t.ppu.scanline, t.ppu.cycle) = position ∧ t.ppu.frameComplete = false ∧ t.ppu.nmiPending = false ∧
    t.dma = { page := 0, offset := 0, data := 0, inProgress := false, waiting := true } ∧
    t.pads = { input0 := 0, input1 := 0, shift0 := 0, shift1 := 0 } ∧ t.ticks = 0 ∧
    t.ram = s.ram ∧ t.ppu.oam = s.ppu.oam ∧ t.ppu.nt = s.ppu.nt ∧ t.ppu.pal = s.ppu.pal ∧ t.ppu.pt = s.ppu.pt ∧
    t.ppu.fb = s.ppu.fb ∧ t.cart = s.cart

/-- The state after reset is the host's reset of the machine at construction, and meets the invariant. It holds no
cartridge and its PPU is at the default position: the model's choices, log 2 and log 8. -/
def Obligations.ResetMeetsInvariant : Prop :=
  State.reset.Inv ∧ State.reset = hostReset Config.ppuResetPosition (State.powerOn Config.ppuResetPosition)

/-- Every master tick keeps the invariant. -/
def Obligations.StepKeepsInvariant : Prop :=
  ∀ s t : State, s.Inv → step s = .next t → t.Inv

/-! ### The master tick -/

/-- When the next tick is a CPU slot that dispatches, the step is the PPU's clock, the instruction the bytes at PC decode to,
one clock of its count, and the NMI phase (R170, R171, R340). Wherever PC points, the bytes are read one after another with
the side effects of their addresses, and they always decode; where they are plain memory the reads have none, so the
instruction runs at the state after the PPU's clock. -/
def Obligations.StepRunsTheDecodedInstruction : Prop :=
  ∀ s : State, s.ready = true → (s.ticks + 1) % 3 = 0 → s.dma.inProgress = false → s.cpu.cycles = 0 →
    (let o := memRead s.cpu.pc (ppuPhase s)
     let l := memRead (s.cpu.pc + 1) o.2
     let h := memRead (s.cpu.pc + 2) l.2
     ∃ i rest, decode [o.1, l.1, h.1] = .ok (i, rest) ∧
       let fetched := if i.mode.length = 1 then o.2 else if i.mode.length = 2 then l.2 else h.2
       step s = onNext (onNext (exec i fetched) countDown) nmiPhase) ∧
    ∀ i rest, decode [s.peek s.cpu.pc, s.peek (s.cpu.pc + 1), s.peek (s.cpu.pc + 2)] = .ok (i, rest) →
      (∀ k < i.mode.length, isMemory (s.cpu.pc + BitVec.ofNat 16 k) = true) →
      step s = onNext (onNext (exec i (ppuPhase s)) countDown) nmiPhase

/-- No step ends in a fault, and a step stops only before the host's reset (R330, R451; the refusal is the model's
choice, log 13). -/
def Obligations.StepStopsOnlyBeforeReset : Prop :=
  ∀ s : State,
    (s.ready = true → ∃ t, step s = .next t ∧ t.ready = true) ∧
    (s.ready = false → step s = .refused .clockBeforeReset)

/-- A tick in which no instruction dispatches (R172, R341, R342, R351). Outside a CPU slot, the PPU's clock is all of it. In
a CPU slot with a count left and no transfer, the count falls by one. In a CPU slot with a transfer in progress, from any
source page, the engine waits, reads in an even tick or writes in an odd one, and the CPU does not advance. In each case a
latched NMI is taken after that, and nothing else happens. -/
def Obligations.WaitingClock : Prop :=
  ∀ s : State, s.ready = true →
    let u := ppuPhase s
    let finish := fun d : State =>
      if u.ppu.nmiPending then cpuNmi { d with ppu := { d.ppu with nmiPending := false } } else d
    ((s.ticks + 1) % 3 ≠ 0 → step s = .next (finish u)) ∧
    ((s.ticks + 1) % 3 = 0 → s.dma.inProgress = false → s.cpu.cycles ≠ 0 →
      step s = .next (finish { u with cpu := { s.cpu with cycles := s.cpu.cycles - 1 } })) ∧
    ((s.ticks + 1) % 3 = 0 → s.dma.inProgress = true →
      (s.dma.waiting = true →
        step s = .next (finish { u with dma := { s.dma with waiting := decide ((s.ticks + 1) % 2 = 0) } })) ∧
      (s.dma.waiting = false → (s.ticks + 1) % 2 = 0 →
        let r := memRead (BitVec.ofNat 16 (256 * s.dma.page.toNat + s.dma.offset.toNat)) u
        step s = .next (finish { r.2 with cpu := s.cpu, dma := { s.dma with data := r.1 } })) ∧
      (s.dma.waiting = false → (s.ticks + 1) % 2 = 1 →
        let last := decide (s.dma.offset = 0xFF)
        step s = .next (finish { u with
          ppu := { u.ppu with oam := u.ppu.oam.write Config.oamInit s.dma.offset.toNat s.dma.data }
          dma := { s.dma with offset := s.dma.offset + 1, inProgress := !last, waiting := last } })))

/-- After n ticks the tick counter has grown by n and the PPU has advanced exactly n places of its frame of 89342. -/
def Obligations.TicksAndPosition : Prop :=
  ∀ (n : Nat) (s : State), s.ready = true → s.ppu.positionOk →
    ∃ t, run n s = .next t ∧ t.ready = true ∧ t.ticks = s.ticks + n ∧ t.ppu.positionOk ∧
      t.ppu.framePlace = (s.ppu.framePlace + n) % 89342

/-- After the host's reset the first 26 ticks change nothing of the CPU but its count, which runs out, and tick 27
dispatches the first instruction (R452). -/
def Obligations.FirstInstructionAtTick27 : Prop :=
  ∀ (position : Int × Nat) (s : State),
    let r := hostReset position s
    ∃ t, run 26 r = .next t ∧ t.cpu = { r.cpu with cycles := 0 } ∧ t.ticks = 26 ∧ t.ram = s.ram ∧
      step t = onNext (dispatchClock (ppuPhase t)) nmiPhase

/-! ### Loads, stores, transfers -/

/-- LDA, LDX, LDY, in every form (R201 to R203). -/
def Obligations.LoadInstructions : Prop :=
  ∀ (i : Instr) (s : State), i.mnemonic = .lda ∨ i.mnemonic = .ldx ∨ i.mnemonic = .ldy →
    let r := operand i.mode (prepare i s)
    formOf i ∈ specForms i.mnemonic ∧
    ∃ t, exec i s = .next t ∧
      t.cpu.a = (if i.mnemonic = .lda then r.1 else s.cpu.a) ∧
      t.cpu.x = (if i.mnemonic = .ldx then r.1 else s.cpu.x) ∧
      t.cpu.y = (if i.mnemonic = .ldy then r.1 else s.cpu.y) ∧
      t.cpu.sp = s.cpu.sp ∧ t.cpu.pc = pcAfter i s ∧
      (∀ f, getFlag f t.cpu.p = match f with
        | .z => r.1 == 0
        | .n => r.1.getLsbD 7
        | .u => true
        | f => getFlag f s.cpu.p) ∧
      t.cpu.cycles = clocks i true s ∧ Dispatched i true s t ∧ OutsideCpuSame r.2 t ∧ MemoriesSame s t

/-- STA, STX, STY, in every form (R204 to R206). -/
def Obligations.StoreInstructions : Prop :=
  ∀ (i : Instr) (s : State), i.mnemonic = .sta ∨ i.mnemonic = .stx ∨ i.mnemonic = .sty →
    let d := if i.mnemonic = .sta then s.cpu.a else if i.mnemonic = .stx then s.cpu.x else s.cpu.y
    formOf i ∈ specForms i.mnemonic ∧
    ∃ t, exec i s = .next t ∧
      RegistersSame s t ∧ t.cpu.pc = pcAfter i s ∧ t.cpu.p = setFlag .u true s.cpu.p ∧
      t.cpu.cycles = i.row.baseCycles ∧ Dispatched i false s t ∧ MemoriesSame s (prepare i s) ∧
      StoredByte (prepare i s).cpu.absAddr d (prepare i s) t

/-- TAX, TAY, TSX, TXA, TXS, TYA (R207 to R212). -/
def Obligations.TransferInstructions : Prop :=
  ∀ (i : Instr) (s : State), i ∈ [Instr.tax, .tay, .tsx, .txa, .txs, .tya] →
    let moved := if i = .tax ∨ i = .tay then s.cpu.a else if i = .tsx then s.cpu.sp
      else if i = .tya then s.cpu.y else s.cpu.x
    formOf i ∈ specForms i.mnemonic ∧
    ∃ t, exec i s = .next t ∧
      t.cpu.a = (if i = .txa ∨ i = .tya then moved else s.cpu.a) ∧
      t.cpu.x = (if i = .tax ∨ i = .tsx then moved else s.cpu.x) ∧
      t.cpu.y = (if i = .tay then moved else s.cpu.y) ∧
      t.cpu.sp = (if i = .txs then moved else s.cpu.sp) ∧ t.cpu.pc = s.cpu.pc + 1 ∧
      (∀ f, getFlag f t.cpu.p = match f with
        | .z => if i = .txs then getFlag .z s.cpu.p else moved == 0
        | .n => if i = .txs then getFlag .n s.cpu.p else moved.getLsbD 7
        | .u => true
        | f => getFlag f s.cpu.p) ∧
      t.cpu.cycles = 2 ∧ Dispatched i false s t ∧ OutsideCpuSame s t ∧ MemoriesSame s t

/-! ### Arithmetic -/

/-- ADC and SBC, in every form: the binary sum with the carry, of M for ADC and of its complement for SBC (R230 to R232). -/
def Obligations.AddWithCarryInstructions : Prop :=
  ∀ (i : Instr) (s : State), i.mnemonic = .adc ∨ i.mnemonic = .sbc →
    let r := operand i.mode (prepare i s)
    let m := if i.mnemonic = .adc then r.1 else r.1 ^^^ 0xFF
    let sum := s.cpu.a.toNat + m.toNat + (getFlag .c s.cpu.p).toNat
    let result := BitVec.ofNat 8 (sum % 256)
    formOf i ∈ specForms i.mnemonic ∧
    ∃ t, exec i s = .next t ∧
      t.cpu.a = result ∧ t.cpu.x = s.cpu.x ∧ t.cpu.y = s.cpu.y ∧ t.cpu.sp = s.cpu.sp ∧ t.cpu.pc = pcAfter i s ∧
      (∀ f, getFlag f t.cpu.p = match f with
        | .c => decide (0xFF < sum)
        | .z => result == 0
        | .n => result.getLsbD 7
        | .v => s.cpu.a.getLsbD 7 == m.getLsbD 7 && s.cpu.a.getLsbD 7 != result.getLsbD 7
        | .u => true
        | f => getFlag f s.cpu.p) ∧
      t.cpu.cycles = clocks i true s ∧ Dispatched i true s t ∧ OutsideCpuSame r.2 t ∧ MemoriesSame s t

/-- What the flags of R230 mean. After an add, V is set iff the signed sum does not fit a byte. After a subtract, C is set
iff there was no borrow and V iff the signed difference does not fit (R230, R232). -/
def Obligations.OverflowAndBorrowMeaning : Prop :=
  ∀ a m p : Byte,
    let c : Int := (getFlag .c p).toNat
    getFlag .v (addFlags a m p) = decide (a.toInt + m.toInt + c < -128 ∨ 127 < a.toInt + m.toInt + c) ∧
    getFlag .c (addFlags a (m ^^^ 0xFF) p) = decide ((m.toNat : Int) ≤ a.toNat + (c - 1)) ∧
    getFlag .v (addFlags a (m ^^^ 0xFF) p) =
      decide (a.toInt - m.toInt - (1 - c) < -128 ∨ 127 < a.toInt - m.toInt - (1 - c))

/-- `CLC; ADC v; SEC; SBC v` restores A from every state. Without the SEC it does not: for A = 0x10 and v = 0x05 the result
is 0x0F (R239). -/
def Obligations.AdcSbcRoundTrip : Prop :=
  (∀ (v : Byte) (s : State),
    ∃ t, execAll [.clc, .adcImm v, .sec, .sbcImm v] s = .next t ∧ t.cpu.a = s.cpu.a) ∧
  ∀ s : State, s.cpu.a = 0x10 →
    ∃ t, execAll [.clc, .adcImm 0x05, .sbcImm 0x05] s = .next t ∧ t.cpu.a = 0x0F

/-- INC and DEC, in every form: one read, one write of the same address (R233, R236). -/
def Obligations.MemoryIncrementInstructions : Prop :=
  ∀ (i : Instr) (s : State), i.mnemonic = .inc ∨ i.mnemonic = .dec →
    let r := operand i.mode (prepare i s)
    let d := BitVec.ofNat 8 ((r.1.toNat + if i.mnemonic = .inc then 1 else 255) % 256)
    formOf i ∈ specForms i.mnemonic ∧
    ∃ t, exec i s = .next t ∧
      RegistersSame s t ∧ t.cpu.pc = pcAfter i s ∧
      (∀ f, getFlag f t.cpu.p = match f with
        | .z => d == 0
        | .n => d.getLsbD 7
        | .u => true
        | f => getFlag f s.cpu.p) ∧
      t.cpu.cycles = i.row.baseCycles ∧ Dispatched i false s t ∧ MemoriesSame s r.2 ∧
      StoredByte (prepare i s).cpu.absAddr d r.2 t

/-- INX, INY, DEX, DEY (R234, R235, R237, R238). -/
def Obligations.RegisterIncrementInstructions : Prop :=
  ∀ (i : Instr) (s : State), i ∈ [Instr.inx, .iny, .dex, .dey] →
    let old := if i = .inx ∨ i = .dex then s.cpu.x else s.cpu.y
    let d := BitVec.ofNat 8 ((old.toNat + if i = .inx ∨ i = .iny then 1 else 255) % 256)
    formOf i ∈ specForms i.mnemonic ∧
    ∃ t, exec i s = .next t ∧
      t.cpu.a = s.cpu.a ∧ t.cpu.x = (if i = .inx ∨ i = .dex then d else s.cpu.x) ∧
      t.cpu.y = (if i = .iny ∨ i = .dey then d else s.cpu.y) ∧ t.cpu.sp = s.cpu.sp ∧ t.cpu.pc = s.cpu.pc + 1 ∧
      (∀ f, getFlag f t.cpu.p = match f with
        | .z => d == 0
        | .n => d.getLsbD 7
        | .u => true
        | f => getFlag f s.cpu.p) ∧
      t.cpu.cycles = 2 ∧ Dispatched i false s t ∧ OutsideCpuSame s t ∧ MemoriesSame s t

/-! ### Logic -/

/-- AND, ORA, EOR, in every form, bit by bit (R250 to R252). -/
def Obligations.LogicInstructions : Prop :=
  ∀ (i : Instr) (s : State), i.mnemonic = .and ∨ i.mnemonic = .ora ∨ i.mnemonic = .eor →
    let r := operand i.mode (prepare i s)
    formOf i ∈ specForms i.mnemonic ∧
    ∃ t, exec i s = .next t ∧
      (∀ k < 8, t.cpu.a.getLsbD k =
        if i.mnemonic = .and then s.cpu.a.getLsbD k && r.1.getLsbD k
        else if i.mnemonic = .ora then s.cpu.a.getLsbD k || r.1.getLsbD k
        else s.cpu.a.getLsbD k != r.1.getLsbD k) ∧
      t.cpu.x = s.cpu.x ∧ t.cpu.y = s.cpu.y ∧ t.cpu.sp = s.cpu.sp ∧ t.cpu.pc = pcAfter i s ∧
      (∀ f, getFlag f t.cpu.p = match f with
        | .z => t.cpu.a == 0
        | .n => t.cpu.a.getLsbD 7
        | .u => true
        | f => getFlag f s.cpu.p) ∧
      t.cpu.cycles = clocks i true s ∧ Dispatched i true s t ∧ OutsideCpuSame r.2 t ∧ MemoriesSame s t

/-- BIT, in both forms (R253). -/
def Obligations.BitInstruction : Prop :=
  ∀ (i : Instr) (s : State), i.mnemonic = .bit →
    let r := operand i.mode (prepare i s)
    formOf i ∈ specForms i.mnemonic ∧
    ∃ t, exec i s = .next t ∧
      RegistersSame s t ∧ t.cpu.pc = pcAfter i s ∧
      (∀ f, getFlag f t.cpu.p = match f with
        | .z => s.cpu.a &&& r.1 == 0
        | .n => r.1.getLsbD 7
        | .v => r.1.getLsbD 6
        | .u => true
        | f => getFlag f s.cpu.p) ∧
      t.cpu.cycles = i.row.baseCycles ∧ Dispatched i false s t ∧ OutsideCpuSame r.2 t ∧ MemoriesSame s t

/-! ### Shifts -/

/-- ASL, LSR, ROL, ROR of A: no bus access (R260 to R264). -/
def Obligations.AccumulatorShifts : Prop :=
  ∀ (i : Instr) (s : State), i ∈ [Instr.aslAcc, .lsrAcc, .rolAcc, .rorAcc] →
    let q := shifted i.mnemonic (getFlag .c s.cpu.p) s.cpu.a
    formOf i ∈ specForms i.mnemonic ∧
    ∃ t, exec i s = .next t ∧
      t.cpu.a = BitVec.ofNat 8 q.1 ∧ t.cpu.x = s.cpu.x ∧ t.cpu.y = s.cpu.y ∧ t.cpu.sp = s.cpu.sp ∧
      t.cpu.pc = s.cpu.pc + 1 ∧
      (∀ f, getFlag f t.cpu.p = match f with
        | .c => q.2
        | .z => decide (q.1 = 0)
        | .n => decide (128 ≤ q.1)
        | .u => true
        | f => getFlag f s.cpu.p) ∧
      t.cpu.cycles = 2 ∧ Dispatched i false s t ∧ OutsideCpuSame s t ∧ MemoriesSame s t

/-- ASL, LSR, ROL, ROR of memory: one read, then one write of the same address (R260 to R264). -/
def Obligations.MemoryShifts : Prop :=
  ∀ (i : Instr) (s : State), i.mnemonic = .asl ∨ i.mnemonic = .lsr ∨ i.mnemonic = .rol ∨ i.mnemonic = .ror →
    i.mode ≠ .acc →
    let r := operand i.mode (prepare i s)
    let q := shifted i.mnemonic (getFlag .c s.cpu.p) r.1
    formOf i ∈ specForms i.mnemonic ∧
    ∃ t, exec i s = .next t ∧
      RegistersSame s t ∧ t.cpu.pc = pcAfter i s ∧
      (∀ f, getFlag f t.cpu.p = match f with
        | .c => q.2
        | .z => decide (q.1 = 0)
        | .n => decide (128 ≤ q.1)
        | .u => true
        | f => getFlag f s.cpu.p) ∧
      t.cpu.cycles = i.row.baseCycles ∧ Dispatched i false s t ∧ MemoriesSame s r.2 ∧
      StoredByte (prepare i s).cpu.absAddr (BitVec.ofNat 8 q.1) r.2 t

/-! ### Branches and compares -/

/-- The eight branches, taken and not taken: where PC goes, and 2, 3 or 4 clocks (R270 to R278). -/
def Obligations.BranchInstructions : Prop :=
  ∀ (i : Instr) (s : State) (offset : Byte) (f : Flag) (want : Bool),
    i.mode = .rel offset → branchTest i.mnemonic = some (f, want) →
    let next := s.cpu.pc + 2
    let target := BitVec.ofInt 16 (next.toNat + offset.toInt)
    let taken := getFlag f s.cpu.p = want
    formOf i ∈ specForms i.mnemonic ∧
    ∃ t, exec i s = .next t ∧
      RegistersSame s t ∧ t.cpu.p = setFlag .u true s.cpu.p ∧
      t.cpu.pc = (if taken then target else next) ∧
      t.cpu.cycles = (if taken then if hiByte target = hiByte next then 3 else 4 else 2) ∧
      t.cpu.relAddr = sext16 offset ∧ Dispatched i false s t ∧ OutsideCpuSame s t ∧ MemoriesSame s t

/-- CMP, CPX, CPY, in every form (R280 to R283). -/
def Obligations.CompareInstructions : Prop :=
  ∀ (i : Instr) (s : State), i.mnemonic = .cmp ∨ i.mnemonic = .cpx ∨ i.mnemonic = .cpy →
    let r := operand i.mode (prepare i s)
    let reg := if i.mnemonic = .cmp then s.cpu.a else if i.mnemonic = .cpx then s.cpu.x else s.cpu.y
    formOf i ∈ specForms i.mnemonic ∧
    ∃ t, exec i s = .next t ∧
      RegistersSame s t ∧ t.cpu.pc = pcAfter i s ∧
      (∀ f, getFlag f t.cpu.p = match f with
        | .c => decide (r.1.toNat ≤ reg.toNat)
        | .z => decide (reg = r.1)
        | .n => (reg - r.1).getLsbD 7
        | .u => true
        | f => getFlag f s.cpu.p) ∧
      t.cpu.cycles = clocks i (i.mnemonic == .cmp) s ∧ Dispatched i (i.mnemonic == .cmp) s t ∧
      OutsideCpuSame r.2 t ∧ MemoriesSame s t

/-! ### Jumps, calls, returns, the break -/

/-- JMP, absolute and indirect (R290, R189): the indirect target's high byte comes from the pointer's own page. -/
def Obligations.JumpInstructions : Prop :=
  (∀ (addr : Word) (s : State),
    formOf (.jmpAbs addr) ∈ specForms .jmp ∧
    ∃ t, exec (.jmpAbs addr) s = .next t ∧ t.cpu.pc = addr ∧ t.cpu.cycles = 3 ∧
      RegistersSame s t ∧ t.cpu.p = setFlag .u true s.cpu.p ∧ Dispatched (.jmpAbs addr) false s t ∧
      OutsideCpuSame s t ∧ MemoriesSame s t) ∧
  ∀ (ptr : Word) (s : State),
    let lo := memRead ptr s
    let hi := memRead ((ptr &&& 0xFF00) ||| ((ptr + 1) &&& 0x00FF)) lo.2
    formOf (.jmpInd ptr) ∈ specForms .jmp ∧
    ∃ t, exec (.jmpInd ptr) s = .next t ∧ t.cpu.pc.toNat = 256 * hi.1.toNat + lo.1.toNat ∧ t.cpu.cycles = 5 ∧
      RegistersSame s t ∧ t.cpu.p = setFlag .u true s.cpu.p ∧ Dispatched (.jmpInd ptr) false s t ∧
      OutsideCpuSame hi.2 t ∧ MemoriesSame s t

/-- JSR (R291): the address of its last byte is pushed, high byte first. -/
def Obligations.CallInstruction : Prop :=
  ∀ (addr : Word) (s : State),
    let ret := s.cpu.pc + 2
    formOf (.jsr addr) ∈ specForms .jsr ∧
    ∃ t, exec (.jsr addr) s = .next t ∧ t.cpu.pc = addr ∧ t.cpu.cycles = 6 ∧
      t.cpu.a = s.cpu.a ∧ t.cpu.x = s.cpu.x ∧ t.cpu.y = s.cpu.y ∧ t.cpu.p = setFlag .u true s.cpu.p ∧
      Dispatched (.jsr addr) false s t ∧ PushedBytes [hiByte ret, loByte ret] s t

/-- RTS (R292): low byte first, then one more. -/
def Obligations.ReturnInstruction : Prop :=
  ∀ s : State,
    let lo := s.ramByte (stackAddr (s.cpu.sp + 1))
    let hi := s.ramByte (stackAddr (s.cpu.sp + 2))
    formOf .rts ∈ specForms .rts ∧
    ∃ t, exec .rts s = .next t ∧ t.cpu.pc = BitVec.ofNat 16 (256 * hi.toNat + lo.toNat + 1) ∧
      t.cpu.sp = s.cpu.sp + 2 ∧ t.cpu.cycles = 6 ∧ t.cpu.a = s.cpu.a ∧ t.cpu.x = s.cpu.x ∧ t.cpu.y = s.cpu.y ∧
      t.cpu.p = setFlag .u true s.cpu.p ∧ Dispatched .rts false s t ∧ OutsideCpuSame s t ∧ MemoriesSame s t

/-- A call whose subroutine returns at once goes on after the call, S restored, wherever S was (R291, R292). -/
def Obligations.CallThenReturn : Prop :=
  ∀ (addr : Word) (s : State), s.ram.wf zeroByte →
    ∃ t, execAll [.jsr addr, .rts] s = .next t ∧ t.cpu.pc = s.cpu.pc + 3 ∧ RegistersSame s t ∧
      t.cpu.p = setFlag .u true s.cpu.p

/-- BRK (R293, R335): the address past the padding byte and P with B and U set are pushed, I is set, PC comes from the
vector at 0xFFFE. -/
def Obligations.BreakInstruction : Prop :=
  ∀ s : State,
    let ret := s.cpu.pc + 2
    formOf .brk ∈ specForms .brk ∧
    ∃ t, exec .brk s = .next t ∧ t.cpu.pc = wordOf (s.peek 0xFFFE) (s.peek 0xFFFF) ∧
      (∀ f, getFlag f t.cpu.p = match f with
        | .i => true
        | .b => false
        | .u => true
        | f => getFlag f s.cpu.p) ∧
      t.cpu.cycles = 7 ∧ t.cpu.a = s.cpu.a ∧ t.cpu.x = s.cpu.x ∧ t.cpu.y = s.cpu.y ∧ Dispatched .brk false s t ∧
      PushedBytes [hiByte ret, loByte ret, s.cpu.p ||| 0x30] s t

/-- RTI (R294): P from the stack with B cleared and U set, then PC, low byte first. -/
def Obligations.ReturnFromInterrupt : Prop :=
  ∀ s : State,
    let popped := s.ramByte (stackAddr (s.cpu.sp + 1))
    let lo := s.ramByte (stackAddr (s.cpu.sp + 2))
    let hi := s.ramByte (stackAddr (s.cpu.sp + 3))
    formOf .rti ∈ specForms .rti ∧
    ∃ t, exec .rti s = .next t ∧ t.cpu.p = (popped &&& 0xEF) ||| 0x20 ∧
      t.cpu.pc.toNat = 256 * hi.toNat + lo.toNat ∧ t.cpu.sp = s.cpu.sp + 3 ∧ t.cpu.cycles = 6 ∧
      t.cpu.a = s.cpu.a ∧ t.cpu.x = s.cpu.x ∧ t.cpu.y = s.cpu.y ∧ Dispatched .rti false s t ∧
      OutsideCpuSame s t ∧ MemoriesSame s t

/-- A BRK whose handler returns at once goes on at the BRK's address plus 2, with every register and every flag but B and U
as before, I included (R293, R294). -/
def Obligations.BreakThenReturn : Prop :=
  ∀ s : State, s.ram.wf zeroByte →
    ∃ t, execAll [.brk, .rti] s = .next t ∧ t.cpu.pc = s.cpu.pc + 2 ∧ RegistersSame s t ∧
      (∀ f, getFlag f t.cpu.p = match f with
        | .b => false
        | .u => true
        | f => getFlag f s.cpu.p)

/-! ### The stack -/

/-- PHA and PHP: what is pushed, with B and U set in PHP's copy alone (R300, R301). -/
def Obligations.PushInstructions : Prop :=
  ∀ (i : Instr) (s : State), i = .pha ∨ i = .php →
    let d := if i = .pha then s.cpu.a else s.cpu.p ||| 0x30
    formOf i ∈ specForms i.mnemonic ∧
    ∃ t, exec i s = .next t ∧ t.cpu.pc = s.cpu.pc + 1 ∧ t.cpu.cycles = 3 ∧
      t.cpu.a = s.cpu.a ∧ t.cpu.x = s.cpu.x ∧ t.cpu.y = s.cpu.y ∧ t.cpu.p = setFlag .u true s.cpu.p ∧
      Dispatched i false s t ∧ PushedBytes [d] s t

/-- PLA and PLP: PLA writes Z and N, PLP writes P with B cleared and U set (R302, R303). -/
def Obligations.PullInstructions : Prop :=
  ∀ (i : Instr) (s : State), i = .pla ∨ i = .plp →
    let d := s.ramByte (stackAddr (s.cpu.sp + 1))
    formOf i ∈ specForms i.mnemonic ∧
    ∃ t, exec i s = .next t ∧ t.cpu.pc = s.cpu.pc + 1 ∧ t.cpu.cycles = 4 ∧ t.cpu.sp = s.cpu.sp + 1 ∧
      t.cpu.a = (if i = .pla then d else s.cpu.a) ∧ t.cpu.x = s.cpu.x ∧ t.cpu.y = s.cpu.y ∧
      (∀ f, getFlag f t.cpu.p =
        if i = .plp then match f with
          | .b => false
          | .u => true
          | f => getFlag f d
        else match f with
          | .z => d == 0
          | .n => d.getLsbD 7
          | .u => true
          | f => getFlag f s.cpu.p) ∧
      Dispatched i false s t ∧ OutsideCpuSame s t ∧ MemoriesSame s t

/-- PHP then PLP leaves P as it was, where B is 0 and U is 1 as at every instruction boundary (R301, R303). -/
def Obligations.PushPullStatus : Prop :=
  ∀ s : State, s.ram.wf zeroByte → getFlag .b s.cpu.p = false → getFlag .u s.cpu.p = true →
    ∃ t, execAll [.php, .plp] s = .next t ∧ t.cpu.p = s.cpu.p ∧ RegistersSame s t

/-- A push writes page 1 at S and moves S down, a pop moves S up and reads there, both modulo 256; a pop gives back what
the push before it stored (R31, R32). -/
def Obligations.StackPrimitives : Prop :=
  ∀ (d : Byte) (s : State),
    PushedBytes [d] s (push d s) ∧ (push d s).cpu = { s.cpu with sp := s.cpu.sp - 1 } ∧
    pop s = (s.peek (BitVec.ofNat 16 (0x100 + (s.cpu.sp + 1).toNat)), { s with cpu := { s.cpu with sp := s.cpu.sp + 1 } }) ∧
    (s.ram.wf zeroByte → (pop (push d s)).1 = d ∧ (pop (push d s)).2.cpu = s.cpu)

/-! ### Flag instructions, NOP, the illegal stub -/

/-- CLC, SEC, CLD, SED, CLI, SEI, CLV each write their one flag (R310 to R316). -/
def Obligations.FlagInstructions : Prop :=
  ∀ (i : Instr) (s : State) (g : Flag) (b : Bool), flagWritten i = some (g, b) →
    formOf i ∈ specForms i.mnemonic ∧
    ∃ t, exec i s = .next t ∧ RegistersSame s t ∧ t.cpu.pc = s.cpu.pc + 1 ∧
      (∀ f, getFlag f t.cpu.p = if f = g then b else if f = .u then true else getFlag f s.cpu.p) ∧
      t.cpu.cycles = 2 ∧ Dispatched i false s t ∧ OutsideCpuSame s t ∧ MemoriesSame s t

/-- NOP and the illegal stub, whatever its byte: nothing but the dispatch; the stub's count is the free
ILLEGAL_OPCODE_CLOCKS, at least 1 (R317, R318; log 7). -/
def Obligations.NopAndIllegalStub : Prop :=
  1 ≤ Config.illegalOpcodeClocks ∧
  ∀ (i : Instr) (s : State), i.mnemonic = .nop ∨ i.mnemonic = .illegal →
    (i.wf = true → formOf i ∈ specForms i.mnemonic) ∧
    ∃ t, exec i s = .next t ∧ RegistersSame s t ∧ t.cpu.pc = s.cpu.pc + 1 ∧ t.cpu.p = setFlag .u true s.cpu.p ∧
      t.cpu.cycles = (if i.mnemonic = .nop then 2 else Config.illegalOpcodeClocks) ∧
      Dispatched i false s t ∧ OutsideCpuSame s t ∧ MemoriesSame s t

/-! ### Addressing and the bus -/

/-- What readies an instruction for its operation: the dispatch (R170), then its mode's resolver, with PC past the whole
instruction (log 3). The effective addresses and page_crossed of every mode (R180 to R192); no resolver writes a register
but abs_addr, rel_addr and page_crossed, and none but IND changes anything outside the CPU (R193). The operand is A, the
immediate byte, or one read of abs_addr (R174). -/
def Obligations.AddressingModes : Prop :=
  ∀ s : State,
    (∀ value, (resolve (.imm value) s).cpu.absAddr = s.cpu.pc - 1) ∧
    (∀ zp, (resolve (.zp0 zp) s).cpu.absAddr.toNat = zp.toNat) ∧
    (∀ zp, (resolve (.zpx zp) s).cpu.absAddr.toNat = (zp.toNat + s.cpu.x.toNat) % 256) ∧
    (∀ zp, (resolve (.zpy zp) s).cpu.absAddr.toNat = (zp.toNat + s.cpu.y.toNat) % 256) ∧
    (∀ addr, (resolve (.abs addr) s).cpu.absAddr = addr) ∧
    (∀ base, let t := resolve (.abx base) s
      t.cpu.absAddr.toNat = (base.toNat + s.cpu.x.toNat) % 65536 ∧
      (t.cpu.pageCrossed = true ↔ t.cpu.absAddr.toNat / 256 ≠ base.toNat / 256)) ∧
    (∀ base, let t := resolve (.aby base) s
      t.cpu.absAddr.toNat = (base.toNat + s.cpu.y.toNat) % 65536 ∧
      (t.cpu.pageCrossed = true ↔ t.cpu.absAddr.toNat / 256 ≠ base.toNat / 256)) ∧
    (∀ zp, let z := (zp.toNat + s.cpu.x.toNat) % 256
      (resolve (.izx zp) s).cpu.absAddr =
        wordOf (s.peek (BitVec.ofNat 16 z)) (s.peek (BitVec.ofNat 16 ((z + 1) % 256)))) ∧
    (∀ zp, let base := wordOf (s.peek (BitVec.ofNat 16 zp.toNat)) (s.peek (BitVec.ofNat 16 ((zp.toNat + 1) % 256)))
      let t := resolve (.izy zp) s
      t.cpu.absAddr.toNat = (base.toNat + s.cpu.y.toNat) % 65536 ∧
      (t.cpu.pageCrossed = true ↔ t.cpu.absAddr.toNat / 256 ≠ base.toNat / 256)) ∧
    (∀ offset, (resolve (.rel offset) s).cpu.relAddr = BitVec.ofInt 16 offset.toInt ∧
      (resolve (.rel offset) s).cpu.absAddr = s.cpu.absAddr) ∧
    (∀ ptr, let lo := memRead ptr s
      let hi := memRead ((ptr &&& 0xFF00) ||| ((ptr + 1) &&& 0x00FF)) lo.2
      resolve (.ind ptr) s = { hi.2 with cpu := { s.cpu with absAddr := wordOf lo.1 hi.1 } }) ∧
    (resolve .imp s = s ∧ resolve .acc s = s) ∧
    (∀ m, let t := resolve m s
      t.cpu = { s.cpu with absAddr := t.cpu.absAddr, relAddr := t.cpu.relAddr, pageCrossed := t.cpu.pageCrossed } ∧
      (modeName m ≠ .rel → t.cpu.relAddr = s.cpu.relAddr) ∧
      (modeName m ∉ [.abx, .aby, .izy] → t.cpu.pageCrossed = s.cpu.pageCrossed) ∧
      (modeName m ≠ .ind → OutsideCpuSame s t)) ∧
    (∀ m, (modeName m = .acc → operand m s = (s.cpu.a, s)) ∧ (∀ value, m = .imm value → operand m s = (value, s)) ∧
      (modeName m ∉ [.acc, .imm] → operand m s = memRead s.cpu.absAddr s)) ∧
    ∀ i, prepare i s = resolve i.mode { s with cpu := { s.cpu with
      opcode := i.row.opcode, pc := pcAfter i s, p := s.cpu.p ||| 0x20, cycles := i.row.baseCycles
      pageCrossed := false, penaltyEligible := false } }

/-- What a CPU read returns, over the whole address space (R81, R87, R89, R90). -/
def Obligations.ReadDecode : Prop :=
  ∀ (a : Word) (s : State),
    (a.toNat ≤ 0x1FFF → memRead a s = (s.ram.read zeroByte (a.toNat % 2048), s)) ∧
    (0x2000 ≤ a.toNat → a.toNat ≤ 0x3FFF →
      (memRead a s).1 = ppuRegValue s.cart (BitVec.ofNat 3 (a.toNat % 8)) s.ppu ∧
      (memRead a s).2 = { s with ppu := ppuRegReadEffect s.cart (BitVec.ofNat 3 (a.toNat % 8)) s.ppu }) ∧
    (a = 0x4016 → memRead a s = (if s.pads.shift0.getLsbD 7 then 1 else 0,
      { s with pads := { s.pads with shift0 := s.pads.shift0 <<< 1 } })) ∧
    (a = 0x4017 → memRead a s = (if s.pads.shift1.getLsbD 7 then 1 else 0,
      { s with pads := { s.pads with shift1 := s.pads.shift1 <<< 1 } })) ∧
    (0x4000 ≤ a.toNat → a.toNat ≤ 0x7FFF → a ≠ 0x4016 → a ≠ 0x4017 → memRead a s = (0, s)) ∧
    (0x8000 ≤ a.toNat → s.cart = none → memRead a s = (0, s)) ∧
    (∀ c, 0x8000 ≤ a.toNat → s.cart = some c →
      memRead a s = (c.prgRom.read zeroByte (a.toNat % if c.prgBanks = .one then 16384 else 32768), s))

/-- What a CPU write does, over the whole address space (R82, R85, R87, R91, R350, R356). -/
def Obligations.WriteDecode : Prop :=
  ∀ (a : Word) (d : Byte) (s : State),
    (a.toNat ≤ 0x1FFF → memWrite a d s = { s with ram := s.ram.write zeroByte (a.toNat % 2048) d }) ∧
    (0x2000 ≤ a.toNat → a.toNat ≤ 0x3FFF →
      memWrite a d s = { s with ppu := ppuRegWrite s.cart (BitVec.ofNat 3 (a.toNat % 8)) d s.ppu }) ∧
    (a = 0x4014 → memWrite a d s =
      { s with dma := { page := d, offset := 0, data := s.dma.data, inProgress := true, waiting := true } }) ∧
    (a = 0x4016 → memWrite a d s = { s with pads := { s.pads with shift0 := s.pads.input0 } }) ∧
    (a = 0x4017 → memWrite a d s = { s with pads := { s.pads with shift1 := s.pads.input1 } }) ∧
    (0x4000 ≤ a.toNat → a ≠ 0x4014 → a ≠ 0x4016 → a ≠ 0x4017 → memWrite a d s = s)

/-- RAM repeats every 2048 bytes below 0x2000 and the PPU's registers every 8 in their window: a write through one alias is
read through every other, and every other byte of RAM is as it was; all aliases read the same (R83, R84). -/
def Obligations.Mirrors : Prop :=
  (∀ (a b : Word) (d : Byte) (s : State), s.ram.wf zeroByte → a.toNat ≤ 0x1FFF → b.toNat ≤ 0x1FFF →
    (memRead b (memWrite a d s)).1 = if a.toNat % 2048 = b.toNat % 2048 then d else (memRead b s).1) ∧
  (∀ (a b : Word) (s : State), a &&& 0x07FF = b &&& 0x07FF → a.toNat ≤ 0x1FFF → b.toNat ≤ 0x1FFF →
    memRead a s = memRead b s ∧ (memRead a s).2 = s) ∧
  (∀ (a b : Word) (d : Byte) (s : State), a &&& 7 = b &&& 7 → 0x2000 ≤ a.toNat → a.toNat ≤ 0x3FFF →
    0x2000 ≤ b.toNat → b.toNat ≤ 0x3FFF → memWrite a d s = memWrite b d s ∧ memRead a s = memRead b s)

/-- No read changes a byte of any memory, the CPU's registers or the DMA engine; and outside the PPU's window and the two
ports a read changes nothing at all (R100, R102). -/
def Obligations.ReadsChangeNoMemory : Prop :=
  ∀ (a : Word) (s : State),
    let t := (memRead a s).2
    MemoriesSame s t ∧ t.cpu = s.cpu ∧ t.dma = s.dma ∧ t.ram = s.ram ∧ t.cart = s.cart ∧
    (¬ (0x2000 ≤ a.toNat ∧ a.toNat ≤ 0x3FFF) → a ≠ 0x4016 → a ≠ 0x4017 → t = s)

/-! ### The PPU's registers -/

/-- The writes of CTRL, MASK, STATUS, OAMADDR, OAMDATA, PPUSCROLL and PPUADDR, by their bits (R361 to R363, R367 to R369,
R371). -/
def Obligations.PpuRegisterWrites : Prop :=
  ∀ (d : Byte) (cart : Option Cartridge) (p : Ppu),
    (∃ t', ppuRegWrite cart 0 d p = { p with ctrl := d, t := t' } ∧
      ∀ k < 16, t'.getLsbD k = if k = 10 then d.getLsbD 0 else if k = 11 then d.getLsbD 1 else p.t.getLsbD k) ∧
    ppuRegWrite cart 1 d p = { p with mask := d } ∧
    ppuRegWrite cart 2 d p = p ∧
    ppuRegWrite cart 3 d p = { p with oamAddr := d } ∧
    ppuRegWrite cart 4 d p = { p with oam := p.oam.write Config.oamInit p.oamAddr.toNat d } ∧
    (p.w = false → ∃ t', ppuRegWrite cart 5 d p =
        { p with fineX := BitVec.ofNat 3 (d.toNat % 8), t := t', w := true } ∧
      ∀ k < 16, t'.getLsbD k = if k < 5 then d.getLsbD (k + 3) else p.t.getLsbD k) ∧
    (p.w = true → ∃ t', ppuRegWrite cart 5 d p = { p with t := t', w := false } ∧
      ∀ k < 16, t'.getLsbD k =
        if 12 ≤ k ∧ k < 15 then d.getLsbD (k - 12) else if 5 ≤ k ∧ k < 10 then d.getLsbD (k - 2) else p.t.getLsbD k) ∧
    (p.w = false → ∃ t', ppuRegWrite cart 6 d p = { p with t := t', w := true } ∧
      t'.toNat = 256 * (d.toNat % 64) + p.t.toNat % 256) ∧
    (p.w = true → ∃ t', ppuRegWrite cart 6 d p = { p with t := t', v := t', w := false } ∧
      t'.toNat = 256 * (p.t.toNat / 256) + d.toNat)

/-- The reads of STATUS, OAMDATA, PPUDATA and the write-only registers, and the write of PPUDATA (R364 to R366, R368,
R370); a host peek has the value without the effect (R88). -/
def Obligations.PpuRegisterReads : Prop :=
  ∀ (cart : Option Cartridge) (p : Ppu),
    let inc : Word := if p.ctrl.getLsbD 2 then 32 else 1
    (ppuRegValue cart 2 p = (p.status &&& 0xE0) ||| (p.dataBuffer &&& 0x1F) ∧
      ppuRegReadEffect cart 2 p = { p with status := p.status &&& 0x7F, w := false }) ∧
    (ppuRegValue cart 4 p = p.oam.read Config.oamInit p.oamAddr.toNat ∧ ppuRegReadEffect cart 4 p = p) ∧
    (ppuRegValue cart 7 p = (if 0x3F00 ≤ p.v.toNat % 0x4000 then ppuRead cart p p.v else p.dataBuffer) ∧
      ppuRegReadEffect cart 7 p = { p with dataBuffer := ppuRead cart p p.v, v := p.v + inc }) ∧
    (∀ r ∈ [0, 1, 3, 5, 6], ppuRegValue cart r p = 0 ∧ ppuRegReadEffect cart r p = p) ∧
    (∀ d, ppuRegWrite cart 7 d p = { ppuWrite cart p.v d p with v := p.v + inc }) ∧
    ∀ (a : Word) (s : State), 0x2000 ≤ a.toNat → a.toNat ≤ 0x3FFF →
      cpuRead true a s = (ppuRegValue s.cart (BitVec.ofNat 3 (a.toNat % 8)) s.ppu, s)

/-- The PPU's address space (R92, R93, R120 to R123): a write at or above 0x2000 is read back there and at every alias of
it, and nowhere else; a write below 0x2000 is never read back while a cartridge is inserted. -/
def Obligations.PpuMemoryReadsBack : Prop :=
  ∀ (c : Cartridge) (p : Ppu) (a b : Word) (d : Byte),
    p.nt.wf Config.vramInit → p.pal.wf Config.paletteInit →
    let cell := fun w : Word =>
      let x := w.toNat % 0x4000
      let q := x % 0x1000 / 0x400
      if x < 0x2000 then (0, x)
      else if x < 0x3F00 then
        (1, 0x400 * (if c.mirroring = .vertical then q % 2 else q / 2) + x % 0x400)
      else (2, if x % 4 = 0 then x % 16 else x % 32)
    (0x2000 ≤ a.toNat % 0x4000 →
      ppuRead (some c) (ppuWrite (some c) a d p) b = if cell b = cell a then d else ppuRead (some c) p b) ∧
    (a.toNat % 0x4000 < 0x2000 → ppuRead (some c) (ppuWrite (some c) a d p) b = ppuRead (some c) p b) ∧
    (b.toNat % 0x4000 < 0x2000 → ppuRead (some c) p b = c.chrRom.read zeroByte (b.toNat % 0x4000))

/-! ### Interrupts -/

/-- The NMI sequence (R331, R335): PC and P with B = 0, U = 1, I = 1 are pushed, P is that byte, PC comes from the vector
at 0xFFFA, and the count becomes 8 whatever it was. -/
def Obligations.NmiSequence : Prop :=
  ∀ s : State,
    let p := (s.cpu.p &&& 0xEF) ||| 0x24
    let t := cpuNmi s
    t.cpu = { s.cpu with sp := s.cpu.sp - 3, p := p, pc := wordOf (s.peek 0xFFFA) (s.peek 0xFFFB), cycles := 8 } ∧
    PushedBytes [hiByte s.cpu.pc, loByte s.cpu.pc, p] s t

/-- The NMI latch (R332, R342, R395): a PPU clock raises it only at (241, 1) with ENABLE_NMI; it is taken at the end of the
tick whatever the CPU slot did, and clear after every tick. -/
def Obligations.NmiLatch : Prop :=
  (∀ s : State, (ppuPhase s).ppu.nmiPending =
    (s.ppu.nmiPending || (decide (s.ppu.scanline = 241 ∧ s.ppu.cycle = 1) && s.ppu.ctrl.getLsbD 7))) ∧
  (∀ s : State, s.ready = true → (ppuPhase s).ppu.nmiPending = true →
    ∃ u, slotPhase (ppuPhase s) = .next u ∧
      step s = .next (cpuNmi { u with ppu := { u.ppu with nmiPending := false } })) ∧
  (∀ s t : State, step s = .next t → t.ppu.nmiPending = false)

/-! ### The PPU's clock -/

/-- The PPU's clock (R372): at each position of R372's table the tag's action runs, in the table's order, then at a visible
position the pixel (R393), then the advance (R389). What the two frame events change (R381, R384), what the advance
changes, and what a whole clock so does to the flags a program sees: vertical blank, overflow and sprite-0 hit cleared at
(-1, 1), vertical blank and the enabled NMI latch set at (241, 1), the frame complete as (260, 340) passes. -/
def Obligations.FrameEvents : Prop :=
  ∀ (cart : Option Cartridge) (p : Ppu),
    let visible := decide (0 ≤ p.scanline ∧ p.scanline ≤ 239)
    let rendered := decide (-1 ≤ p.scanline ∧ p.scanline ≤ 239)
    let schedule : List (Bool × (Ppu → Ppu)) :=
      [(decide (p.scanline = -1 ∧ p.cycle = 1), preRenderClear),
       (decide (p.scanline = -1 ∧ 280 ≤ p.cycle ∧ p.cycle ≤ 304), transferY),
       (rendered && decide (2 ≤ p.cycle ∧ p.cycle ≤ 257 ∨ 321 ≤ p.cycle ∧ p.cycle ≤ 337), processTile cart),
       (visible && decide (p.cycle = 256), incrementScrollY),
       (rendered && decide (p.cycle = 257), loadBgShifters),
       (rendered && decide (p.cycle = 257), transferX),
       (rendered && decide (p.cycle = 338 ∨ p.cycle = 340), fetchNametable cart),
       (visible && decide (p.cycle = 257), oamEvaluate),
       (visible && decide (p.cycle = 340), spriteFetch cart),
       (decide (p.scanline = 241 ∧ p.cycle = 1), endOfFrame),
       (visible && decide (1 ≤ p.cycle ∧ p.cycle ≤ 256), composePixel cart)]
    ppuClock cart p = advance (schedule.foldl (fun q tag => if tag.1 then tag.2 q else q) p) ∧
    preRenderClear p = { p with status := p.status &&& 0x1F, sprites := (preRenderClear p).sprites } ∧
    (preRenderClear p).sprites.toList = p.sprites.toList.map (fun e => { e with patLo := 0, patHi := 0 }) ∧
    endOfFrame p =
      { p with status := p.status ||| 0x80, nmiPending := p.nmiPending || p.ctrl.getLsbD 7 } ∧
    (p.positionOk →
      let place := if p.cycle < 340 then (p.scanline, p.cycle + 1)
        else if p.scanline < 260 then (p.scanline + 1, 0) else (-1, 0)
      let complete := p.frameComplete || decide (p.scanline = 260 ∧ p.cycle = 340)
      let q := ppuClock cart p
      advance p = { p with scanline := place.1, cycle := place.2, frameComplete := complete } ∧
      (q.scanline, q.cycle) = place ∧ q.frameComplete = complete ∧
      q.verticalBlank = (if p.scanline = 241 ∧ p.cycle = 1 then true
        else if p.scanline = -1 ∧ p.cycle = 1 then false else p.verticalBlank) ∧
      (p.scanline = -1 → p.cycle = 1 → q.spriteOverflow = false ∧ q.spriteZeroHit = false ∧
        ∀ e ∈ q.sprites.toList, e.patLo = 0 ∧ e.patHi = 0) ∧
      q.nmiPending = (p.nmiPending || (decide (p.scanline = 241 ∧ p.cycle = 1) && p.ctrl.getLsbD 7)))

/-- The scroll increments and transfers, by the fields of v (R377, R378, R380): nothing while rendering is disabled. -/
def Obligations.ScrollUpdates : Prop :=
  ∀ p : Ppu,
    (p.renderingEnabled = false →
      incrementScrollX p = p ∧ incrementScrollY p = p ∧ transferX p = p ∧ transferY p = p) ∧
    (p.renderingEnabled = true →
      (∃ v', incrementScrollX p = { p with v := v' } ∧
        (coarseX v').toNat = ((coarseX p.v).toNat + 1) % 32 ∧
        nametableX v' = (nametableX p.v != decide ((coarseX p.v).toNat = 31)) ∧
        coarseY v' = coarseY p.v ∧ nametableY v' = nametableY p.v ∧ fineY v' = fineY p.v ∧
        v'.getLsbD 15 = p.v.getLsbD 15) ∧
      (∃ v', incrementScrollY p = { p with v := v' } ∧
        (fineY v').toNat = ((fineY p.v).toNat + 1) % 8 ∧
        (coarseY v').toNat = (if (fineY p.v).toNat < 7 then (coarseY p.v).toNat
          else if (coarseY p.v).toNat = 29 ∨ (coarseY p.v).toNat = 31 then 0 else (coarseY p.v).toNat + 1) ∧
        nametableY v' =
          (nametableY p.v != decide ((fineY p.v).toNat = 7 ∧ (coarseY p.v).toNat = 29)) ∧
        coarseX v' = coarseX p.v ∧ nametableX v' = nametableX p.v ∧ v'.getLsbD 15 = p.v.getLsbD 15) ∧
      (∃ v', transferX p = { p with v := v' } ∧
        ∀ k < 16, v'.getLsbD k = if k < 5 ∨ k = 10 then p.t.getLsbD k else p.v.getLsbD k) ∧
      (∃ v', transferY p = { p with v := v' } ∧
        ∀ k < 16, v'.getLsbD k =
          if (5 ≤ k ∧ k < 10) ∨ (11 ≤ k ∧ k < 15) then p.t.getLsbD k else p.v.getLsbD k))

/-- The shifter update (R388): the background's shifters under RENDER_BACKGROUND; below cycle 258, under RENDER_SPRITES,
each collected unit's x counts down, or at 0 its shifters shift; nothing else. -/
def Obligations.ShifterUpdate : Prop :=
  ∀ p : Ppu,
    let q := updateShifters p
    let shift := fun w : Word => if p.mask.getLsbD 3 then BitVec.ofNat 16 (2 * w.toNat) else w
    q = { p with
      bgPatLo := shift p.bgPatLo, bgPatHi := shift p.bgPatHi, bgAttrLo := shift p.bgAttrLo
      bgAttrHi := shift p.bgAttrHi, sprites := q.sprites } ∧
    ∀ k e, p.sprites.toList[k]? = some e →
      q.sprites.toList[k]? = some
        (if p.mask.getLsbD 4 = true ∧ p.cycle < 258 ∧ k < p.spriteCount then
          if 0 < e.x.toNat then { e with x := BitVec.ofNat 8 (e.x.toNat - 1) }
          else { e with patLo := BitVec.ofNat 8 (2 * e.patLo.toNat), patHi := BitVec.ofNat 8 (2 * e.patHi.toNat) }
        else e)

/-- A process-next-tile position (R373 to R377): the shifter update, then the phase of (cycle - 1) mod 8. The load and the
nametable fetch alone, as the other tags use them (R376, R379, R382). -/
def Obligations.TileFetches : Prop :=
  ∀ (cart : Option Cartridge) (p : Ppu),
    let u := updateShifters p
    let loaded := fun (b : Byte) (w : Word) => BitVec.ofNat 16 (256 * (w.toNat / 256) + b.toNat)
    let spread := fun (b : Bool) => if b then (0xFF : Byte) else 0x00
    let name := ppuRead cart p (BitVec.ofNat 16 (0x2000 + p.v.toNat % 0x1000))
    let attrByte := ppuRead cart p (BitVec.ofNat 16 (0x23C0 + 0x400 * (p.v.toNat / 0x400 % 4)
      + 8 * ((coarseY p.v).toNat / 4) + (coarseX p.v).toNat / 4))
    let quadrant := 2 * ((coarseY p.v).toNat / 2 % 2) + (coarseX p.v).toNat / 2 % 2
    let row := 0x1000 * (p.ctrl.getLsbD 4).toNat + 16 * p.nextId.toNat + (fineY p.v).toNat
    let loadedInto := fun r : Ppu =>
      { r with
        bgPatLo := loaded p.nextLo r.bgPatLo, bgPatHi := loaded p.nextHi r.bgPatHi
        bgAttrLo := loaded (spread (p.nextAttr.getLsbD 0)) r.bgAttrLo
        bgAttrHi := loaded (spread (p.nextAttr.getLsbD 1)) r.bgAttrHi }
    loadBgShifters p = loadedInto p ∧ fetchNametable cart p = { p with nextId := name } ∧
    processTile cart p =
      match (p.cycle - 1) % 8 with
      | 0 => { loadedInto u with nextId := name }
      | 2 => { u with nextAttr := BitVec.ofNat 2 (attrByte.toNat / 4 ^ quadrant) }
      | 4 => { u with nextLo := ppuRead cart p (BitVec.ofNat 16 row) }
      | 6 => { u with nextHi := ppuRead cart p (BitVec.ofNat 16 (row + 8)) }
      | 7 => incrementScrollX u
      | _ => u

/-- Sprite evaluation (R385): the first eight OAM entries on the line are taken in order, a ninth sets the overflow flag,
the shifters are cleared, and nothing else changes. -/
def Obligations.SpriteEvaluation : Prop :=
  ∀ p : Ppu,
    let rows : Int := if p.ctrl.getLsbD 5 then 16 else 8
    let y := fun n => ((p.oamByte (BitVec.ofNat 8 (4 * n))).toNat : Int)
    let selected := (List.range 64).filter fun n => decide (0 ≤ p.scanline - y n ∧ p.scanline - y n < rows)
    let q := oamEvaluate p
    q.spriteCount = min 8 selected.length ∧
    q.sprite0Possible = selected.contains 0 ∧
    q.spriteOverflow = (p.spriteOverflow || decide (8 < selected.length)) ∧
    q = { p with
      spriteCount := q.spriteCount, sprite0Possible := q.sprite0Possible, status := q.status, sprites := q.sprites } ∧
    (∀ k < 8, k ≠ 5 → q.status.getLsbD k = p.status.getLsbD k) ∧
    (∀ k n, k < 8 → selected[k]? = some n →
      q.sprites.toList[k]? = some
        { y := p.oamByte (BitVec.ofNat 8 (4 * n)), id := p.oamByte (BitVec.ofNat 8 (4 * n + 1)),
          attr := p.oamByte (BitVec.ofNat 8 (4 * n + 2)), x := p.oamByte (BitVec.ofNat 8 (4 * n + 3)),
          patLo := 0, patHi := 0 }) ∧
    ∀ e ∈ q.sprites.toList, e.patLo = 0 ∧ e.patHi = 0

/-- Sprite fetch (R386, R387): for each collected sprite the pattern address of its row, flipped as its attribute says, and
the two bytes, bit-reversed under a horizontal flip; the other units as they were. -/
def Obligations.SpritePatterns : Prop :=
  (∀ (b : Byte) (k : Nat), k < 8 → (rev8 b).getLsbD k = b.getLsbD (7 - k)) ∧
  (∀ (half : Bool) (row : Nat) (id attr : Byte), row < 8 →
    (spritePatternAddr false half row id attr).toNat =
      0x1000 * half.toNat + 16 * id.toNat + (if attr.getLsbD 7 then 7 - row else row)) ∧
  (∀ (half : Bool) (row : Nat) (id attr : Byte), row < 16 →
    let shown := if attr.getLsbD 7 then 15 - row else row
    (spritePatternAddr true half row id attr).toNat =
      0x1000 * (id.toNat % 2) + 16 * (id.toNat / 2 * 2 + shown / 8) + shown % 8) ∧
  (∀ (cart : Option Cartridge) (p : Ppu), spriteFetch cart p = { p with sprites := (spriteFetch cart p).sprites }) ∧
  ∀ (cart : Option Cartridge) (p : Ppu) (k : Nat) (e : SpriteUnit), p.sprites.toList[k]? = some e →
    let addr := spritePatternAddr p.spriteSize p.patternSprite (p.scanline - e.y.toNat) e.id e.attr
    let lo := ppuRead cart p addr
    let hi := ppuRead cart p (addr + 8)
    (spriteFetch cart p).sprites.toList[k]? = some
      (if k < p.spriteCount then
        { e with patLo := if e.attr.getLsbD 6 then rev8 lo else lo, patHi := if e.attr.getLsbD 6 then rev8 hi else hi }
      else e)

/-- A visible pixel (R390 to R394): the background's bits are those fine_x selects, the first opaque sprite at x = 0 wins by
its priority bit, and the frame buffer holds the colour of the palette byte so selected; the hit flag is set where the rule
says and never cleared here. Every other pixel, flag and field is as it was. -/
def Obligations.VisiblePixel : Prop :=
  ∀ (cart : Option Cartridge) (p : Ppu),
    let k := 15 - p.fineX.toNat
    let q := composePixel cart p
    (bgPixel p).toNat = (if p.mask.getLsbD 3 then 2 * (p.bgPatHi.getLsbD k).toNat + (p.bgPatLo.getLsbD k).toNat else 0) ∧
    (bgPalette p).toNat =
      (if p.mask.getLsbD 3 then 2 * (p.bgAttrHi.getLsbD k).toNat + (p.bgAttrLo.getLsbD k).toNat else 0) ∧
    (∀ i e, fgSprite p = some (i, e) →
      p.mask.getLsbD 4 = true ∧ i < p.spriteCount ∧ p.sprites.toList[i]? = some e ∧ e.x = 0 ∧ e.pixel ≠ 0 ∧
      ∀ j < i, ∀ e', p.sprites.toList[j]? = some e' → ¬ (e'.x = 0 ∧ e'.pixel ≠ 0)) ∧
    (fgSprite p = none → p.mask.getLsbD 4 = true →
      ∀ j < p.spriteCount, ∀ e, p.sprites.toList[j]? = some e → ¬ (e.x = 0 ∧ e.pixel ≠ 0)) ∧
    q.sprite0Rendering = (if p.mask.getLsbD 4 then (fgSprite p).map (·.1) == some 0 else p.sprite0Rendering) ∧
    outputPixel p =
      (match fgSprite p with
      | none => if bgPixel p = 0 then (0, 0) else ((bgPalette p).setWidth 3, bgPixel p)
      | some (_, e) =>
        if bgPixel p = 0 ∨ e.attr.getLsbD 5 = false then (BitVec.ofNat 3 (e.attr.toNat % 4 + 4), e.pixel)
        else ((bgPalette p).setWidth 3, bgPixel p)) ∧
    q.spriteZeroHit = (p.spriteZeroHit ||
      (p.sprite0Possible && p.mask.getLsbD 3 && p.mask.getLsbD 4 && bgPixel p != 0 &&
        ((fgSprite p).map (·.1) == some 0) &&
        decide ((if p.mask.getLsbD 1 && p.mask.getLsbD 2 then 1 else 9) ≤ p.cycle ∧ p.cycle < 258))) ∧
    (∀ row column : Nat, row < 240 → column < 256 → p.scanline = row → p.cycle = column + 1 →
      (p.fb.wf Config.frameBufferInit →
        q.fb.read Config.frameBufferInit (256 * row + column) =
          Config.paletteArgb (BitVec.ofNat 6
            ((ppuRead cart p (BitVec.ofNat 16 (0x3F00 + 4 * (outputPixel p).1.toNat + (outputPixel p).2.toNat))).toNat % 64))) ∧
      ∀ n, n ≠ 256 * row + column → q.fb.read Config.frameBufferInit n = p.fb.read Config.frameBufferInit n) ∧
    q = { p with fb := q.fb, status := q.status, sprite0Rendering := q.sprite0Rendering } ∧
    ∀ k < 8, k ≠ 6 → q.status.getLsbD k = p.status.getLsbD k

/-! ### The DMA engine and the controller ports -/

/-- A whole transfer (R350 to R354). It has just been started, by a write to 0x4014 in the tick just done, and takes 513 CPU
slots if that tick's number is even and 514 if odd, whatever the source page and whether an NMI is taken meanwhile: until
then it is in progress, after that the engine is idle. Where NMI is not enabled and reads of the source page have no side
effect (RAM, the open pages from 0x41, PRG ROM), OAM then holds the page in order, and neither the CPU nor RAM nor oam_addr
has changed. -/
def Obligations.DmaTransfer : Prop :=
  ∀ s : State,
    s.Inv → s.ready = true → s.ticks % 3 = 0 → s.dma.offset = 0 → s.dma.inProgress = true → s.dma.waiting = true →
    let slots := if s.ticks % 2 = 0 then 513 else 514
    (∀ n t, n < 3 * slots → run n s = .next t → t.dma.inProgress = true) ∧
    ∃ t, run (3 * slots) s = .next t ∧ t.dma.inProgress = false ∧ t.dma.waiting = true ∧ t.dma.offset = 0 ∧
      (s.ppu.enableNmi = false → s.ppu.nmiPending = false → s.dma.page.toNat < 0x20 ∨ 0x41 ≤ s.dma.page.toNat →
        (∀ k : Byte, t.ppu.oamByte k = s.peek (wordOf k s.dma.page)) ∧ t.cpu = s.cpu ∧ t.ram = s.ram ∧
        t.ppu.oamAddr = s.ppu.oamAddr)

/-- A strobe, then reads of the port (R356, R357): the eight buttons from bit 7 down, one in bit 0 of each read, then
zeros; the data written does not matter and the other port is not touched. -/
def Obligations.PadReads : Prop :=
  ∀ (port : Bool) (d : Byte) (n : Nat) (s : State),
    let addr : Word := if port then 0x4017 else 0x4016
    let buttons := if port then s.pads.input1 else s.pads.input0
    let r := readTimes (8 + n) addr (memWrite addr d s)
    r.1 = (List.range 8).map (fun k => if buttons.getLsbD (7 - k) then 1 else 0) ++ List.replicate n 0 ∧
    r.2.pads.input0 = s.pads.input0 ∧ r.2.pads.input1 = s.pads.input1 ∧
    (if port then r.2.pads.shift0 = s.pads.shift0 else r.2.pads.shift1 = s.pads.shift1)

/-! ### The host -/

/-- The controller functions (R358), and the insertion of a cartridge (R61, R90, R92, R94, R453): which images are accepted,
what the inserted cartridge is, that nothing else changes but that a reset must follow, and why the others are refused.
The order in which the refusals are tried, and the check of the arrays' lengths, are the model's choice (log 14). -/
def Obligations.HostFunctions : Prop :=
  (∀ (mask : Byte) (s : State),
    writeController 0 mask s = .next { s with pads := { s.pads with input0 := s.pads.input0 ||| mask } } ∧
    writeController 1 mask s = .next { s with pads := { s.pads with input1 := s.pads.input1 ||| mask } } ∧
    clearController 0 s = .next { s with pads := { s.pads with input0 := 0 } } ∧
    clearController 1 s = .next { s with pads := { s.pads with input1 := 0 } } ∧
    getController 0 s = .ok s.pads.input0 ∧ getController 1 s = .ok s.pads.input1 ∧
    ∀ idx, 2 ≤ idx → writeController idx mask s = .refused .controllerIndex ∧
      clearController idx s = .refused .controllerIndex ∧ getController idx s = .error .controllerIndex) ∧
  ∀ (c : CartridgeImage) (s : State),
    let oneWay := c.mirroring = .horizontal ∨ c.mirroring = .vertical
    let prgOk := c.prgBanks = 1 ∨ c.prgBanks = 2
    let sizes := c.prgRom.length = 0x4000 * c.prgBanks ∧ c.chrRom.length = 0x2000 * c.chrBanks
    (c.mapperId = 0 → oneWay → prgOk → c.chrBanks = 1 → sizes →
      ∃ k, insertCartridge c s = .next { s with cart := some k, ready := false } ∧
        (k.mirroring = .vertical ↔ c.mirroring = .vertical) ∧ k.prgBanks.bytes = 0x4000 * c.prgBanks ∧
        k.chrBanks.bytes = 0x2000 * c.chrBanks ∧ k.trainer = c.trainer ∧
        (∀ n, k.prgRom.read zeroByte n = c.prgRom.getD n 0) ∧ ∀ n, k.chrRom.read zeroByte n = c.chrRom.getD n 0) ∧
    (c.mapperId ≠ 0 → insertCartridge c s = .refused .mapperNotSupported) ∧
    (c.mapperId = 0 → ¬ oneWay → insertCartridge c s = .refused .onescreenMirroring) ∧
    (c.mapperId = 0 → oneWay → ¬ prgOk → insertCartridge c s = .refused .prgBankCount) ∧
    (c.mapperId = 0 → oneWay → prgOk → c.chrBanks ≠ 1 → insertCartridge c s = .refused .chrBankCount) ∧
    (c.mapperId = 0 → oneWay → prgOk → c.chrBanks = 1 → ¬ sizes → insertCartridge c s = .refused .romLength)

/-- `do_frame` (R454), where its bound on the ticks of each loop suffices (log 15): the first loop runs at least one tick and
stops at the first with the frame complete; the drain stops at the first state with no count left, which may be the one
it starts from; then the frame-complete flag is cleared, nothing else being changed. From every machine that has been
reset, with its PPU on the frame, some bound suffices. -/
def Obligations.DoFrame : Prop :=
  (∀ (fuel : Nat) (s t : State), doFrame fuel s = some (.next t) →
    ∃ n m u v, 1 ≤ n ∧ run n s = .next u ∧ u.ppu.frameComplete = true ∧
      (∀ k w, 1 ≤ k → k < n → run k s = .next w → w.ppu.frameComplete = false) ∧
      run m u = .next v ∧ v.cpu.cycles = 0 ∧ (∀ k w, k < m → run k u = .next w → w.cpu.cycles ≠ 0) ∧
      t = { v with ppu := { v.ppu with frameComplete := false } }) ∧
  ∀ s : State, s.ready = true → s.ppu.positionOk → ∃ fuel t, doFrame fuel s = some (.next t)

end
end

