-- ==== Sys2Proof/Laws/Memory.lean ====
section
/-! SUPPORT. The laws of memories: read after write, and that writing keeps the canonical form. -/

namespace Sys2Proof.Machine

variable {α : Type} (dflt : Nat → α)

theorem Memory.read_of_not_mem {m : Memory α} {a : Nat} (h : ∀ p ∈ m, p.1 ≠ a) : m.read dflt a = dflt a := by
  induction m with
  | nil => rfl
  | cons p m ih =>
    have h1 := h p (by simp)
    simp only [Memory.read, h1, if_false]
    exact ih fun q hq => h q (by simp [hq])

theorem Memory.mem_erase {m : Memory α} {a : Nat} {p : Nat × α} (h : p ∈ m.erase a) : p ∈ m := by
  induction m with
  | nil => exact h
  | cons q m ih =>
    simp only [Memory.erase] at h
    split at h
    · exact List.mem_cons_of_mem _ h
    · rcases List.mem_cons.1 h with rfl | h
      · simp
      · exact List.mem_cons_of_mem _ (ih h)

theorem Memory.mem_insert {m : Memory α} {a : Nat} {v : α} {p : Nat × α} (h : p ∈ m.insert a v) :
    p = (a, v) ∨ p ∈ m := by
  induction m with
  | nil => simpa [Memory.insert] using h
  | cons q m ih =>
    simp only [Memory.insert] at h
    split at h
    · simpa using h
    · split at h
      · rcases List.mem_cons.1 h with h | h
        · exact .inl h
        · exact .inr (List.mem_cons_of_mem _ h)
      · rcases List.mem_cons.1 h with rfl | h
        · simp
        · exact (ih h).imp_right (List.mem_cons_of_mem _)

theorem Memory.read_erase_other {m : Memory α} {a b : Nat} (h : b ≠ a) :
    (m.erase a).read dflt b = m.read dflt b := by
  induction m with
  | nil => rfl
  | cons q m ih =>
    obtain ⟨c, w⟩ := q
    simp only [Memory.erase]
    split
    · next hc => simp [Memory.read, show c ≠ b by omega]
    · simp only [Memory.read, ih]

theorem Memory.read_insert_same {m : Memory α} {a : Nat} {v : α} : (m.insert a v).read dflt a = v := by
  induction m with
  | nil => simp [Memory.insert, Memory.read]
  | cons q m ih =>
    obtain ⟨c, w⟩ := q
    simp only [Memory.insert]
    split
    · simp [Memory.read]
    · split
      · simp [Memory.read]
      · next h => simp [Memory.read, show c ≠ a by omega, ih]

theorem Memory.read_insert_other {m : Memory α} {a b : Nat} {v : α} (h : b ≠ a) :
    (m.insert a v).read dflt b = m.read dflt b := by
  induction m with
  | nil => simp [Memory.insert, Memory.read, show a ≠ b by omega]
  | cons q m ih =>
    obtain ⟨c, w⟩ := q
    simp only [Memory.insert]
    split
    · simp [Memory.read, show a ≠ b by omega]
    · split
      · simp [Memory.read, show a ≠ b by omega, show c ≠ b by omega]
      · simp [Memory.read, ih]

theorem Memory.read_erase_same {m : Memory α} (hm : m.Pairwise (fun p q => p.1 < q.1)) (a : Nat) :
    (m.erase a).read dflt a = dflt a := by
  induction m with
  | nil => rfl
  | cons q m ih =>
    obtain ⟨c, w⟩ := q
    rw [List.pairwise_cons] at hm
    simp only [Memory.erase]
    split
    · next hc =>
      exact Memory.read_of_not_mem dflt fun p hp => by have := hm.1 p hp; simp at this; omega
    · next hc => simp [Memory.read, hc, ih hm.2]

variable [DecidableEq α]

/-- A read after a write to the same address gives the value written. -/
theorem Memory.read_write_same {m : Memory α} (hm : m.wf dflt) (a : Nat) (v : α) :
    (m.write dflt a v).read dflt a = v := by
  unfold Memory.write
  split
  · next h => rw [Memory.read_erase_same dflt hm.1, h]
  · exact Memory.read_insert_same dflt

/-- A write leaves every other address alone. -/
theorem Memory.read_write_other (m : Memory α) {a b : Nat} (v : α) (h : b ≠ a) :
    (m.write dflt a v).read dflt b = m.read dflt b := by
  unfold Memory.write
  split
  · exact Memory.read_erase_other dflt h
  · exact Memory.read_insert_other dflt h

/-- A write keeps the canonical form. -/
theorem Memory.write_wf {m : Memory α} (hm : m.wf dflt) (a : Nat) (v : α) : (m.write dflt a v).wf dflt := by
  unfold Memory.write
  split
  · refine ⟨?_, fun p hp => hm.2 p (Memory.mem_erase hp)⟩
    obtain ⟨hs, -⟩ := hm
    induction m with
    | nil => exact hs
    | cons q m ih =>
      rw [List.pairwise_cons] at hs
      simp only [Memory.erase]
      split
      · exact hs.2
      · exact List.pairwise_cons.2 ⟨fun p hp => hs.1 p (Memory.mem_erase hp), ih hs.2⟩
  · next hv =>
    constructor
    · obtain ⟨hs, -⟩ := hm
      induction m with
      | nil => simp [Memory.insert]
      | cons q m ih =>
        obtain ⟨c, w⟩ := q
        have hs' := List.pairwise_cons.1 hs
        simp only [Memory.insert]
        split
        · next h =>
          refine List.pairwise_cons.2 ⟨fun p hp => ?_, hs⟩
          rcases List.mem_cons.1 hp with rfl | hp
          · exact h
          · have := hs'.1 p hp; simp at this ⊢; omega
        · split
          · next h => subst h; exact List.pairwise_cons.2 hs'
          · next h1 h2 =>
            refine List.pairwise_cons.2 ⟨fun p hp => ?_, ih hs'.2⟩
            rcases Memory.mem_insert hp with rfl | hp
            · simp; omega
            · exact hs'.1 p hp
    · intro p hp
      rcases Memory.mem_insert hp with rfl | hp
      · exact hv
      · exact hm.2 p hp

/-- A write inside a size keeps every listed address inside it. -/
theorem Memory.write_below {m : Memory α} {size : Nat} (hm : m.below size) {a : Nat} (ha : a < size) (v : α) :
    (m.write dflt a v).below size := by
  unfold Memory.write
  intro p hp
  split at hp
  · exact hm p (Memory.mem_erase hp)
  · rcases Memory.mem_insert hp with rfl | hp
    · exact ha
    · exact hm p hp

/-! ### ROM arrays -/

theorem Memory.ofBytesFrom_ge {k : Nat} {bytes : List Byte} {p : Nat × Byte}
    (h : p ∈ Memory.ofBytesFrom k bytes) : k ≤ p.1 := by
  induction bytes generalizing k with
  | nil => simp [Memory.ofBytesFrom] at h
  | cons b bytes ih =>
    simp only [Memory.ofBytesFrom] at h
    split at h
    · have := ih h; omega
    · rcases List.mem_cons.1 h with rfl | h
      · simp
      · have := ih h; omega

theorem Memory.ofBytesFrom_wf (k : Nat) (bytes : List Byte) : (Memory.ofBytesFrom k bytes).wf zeroByte := by
  induction bytes generalizing k with
  | nil => simp [Memory.wf, Memory.ofBytesFrom]
  | cons b bytes ih =>
    simp only [Memory.ofBytesFrom]
    split
    · exact ih (k + 1)
    · next hb =>
      refine ⟨List.pairwise_cons.2 ⟨fun p hp => ?_, (ih (k + 1)).1⟩, fun p hp => ?_⟩
      · have := Memory.ofBytesFrom_ge hp
        exact this
      · rcases List.mem_cons.1 hp with rfl | hp
        · exact hb
        · exact (ih (k + 1)).2 p hp

theorem Memory.ofBytesFrom_read (k : Nat) (bytes : List Byte) (n : Nat) :
    (Memory.ofBytesFrom k bytes).read zeroByte (k + n) = bytes.getD n 0 := by
  induction bytes generalizing k n with
  | nil => simp [Memory.ofBytesFrom, Memory.read, zeroByte]
  | cons b bytes ih =>
    have none_here : (Memory.ofBytesFrom (k + 1) bytes).read zeroByte k = 0 :=
      Memory.read_of_not_mem zeroByte fun p hp => by have := Memory.ofBytesFrom_ge hp; omega
    cases n with
    | zero =>
      simp only [Memory.ofBytesFrom]
      split
      · next hb => simpa [hb] using none_here
      · simp [Memory.read]
    | succ n =>
      have h := ih (k + 1) n
      rw [show k + 1 + n = k + (n + 1) by omega] at h
      simp only [Memory.ofBytesFrom]
      split
      · simpa using h
      · simpa [Memory.read] using h

/-- A ROM array reads back as the bytes it was made from. -/
theorem Memory.ofBytes_read (bytes : List Byte) (n : Nat) :
    (Memory.ofBytes bytes).read zeroByte n = bytes.getD n 0 := by
  simpa [Memory.ofBytes] using Memory.ofBytesFrom_read 0 bytes n

theorem Memory.ofBytes_wf (bytes : List Byte) : (Memory.ofBytes bytes).wf zeroByte := Memory.ofBytesFrom_wf 0 bytes

theorem Memory.ofBytesFrom_below (k : Nat) (bytes : List Byte) :
    (Memory.ofBytesFrom k bytes).below (k + bytes.length) := by
  induction bytes generalizing k with
  | nil => simp [Memory.below, Memory.ofBytesFrom]
  | cons b bytes ih =>
    intro p hp
    have step : p ∈ Memory.ofBytesFrom (k + 1) bytes → p.1 < k + (b :: bytes).length := fun h => by
      have := ih (k + 1) p h
      simp only [List.length_cons]
      omega
    simp only [Memory.ofBytesFrom] at hp
    split at hp
    · exact step hp
    · rcases List.mem_cons.1 hp with rfl | hp
      · simp
      · exact step hp

theorem Memory.ofBytes_below (bytes : List Byte) : (Memory.ofBytes bytes).below bytes.length := by
  simpa [Memory.ofBytes] using Memory.ofBytesFrom_below 0 bytes

end Sys2Proof.Machine
end

