-- ==== Sys2Proof/Laws/State.lean ====
section
/-! SUPPORT. One lemma per field per register write of Machine/Ops.lean, so that no proof unfolds a record update. -/

namespace Sys2Proof.Machine

variable (s : State)

/-! ### setA -/

@[simp] theorem setA_a (d : Byte) : (s.setA d).cpu.a = d := rfl
@[simp] theorem setA_x (d : Byte) : (s.setA d).cpu.x = s.cpu.x := rfl
@[simp] theorem setA_y (d : Byte) : (s.setA d).cpu.y = s.cpu.y := rfl
@[simp] theorem setA_sp (d : Byte) : (s.setA d).cpu.sp = s.cpu.sp := rfl
@[simp] theorem setA_pc (d : Byte) : (s.setA d).cpu.pc = s.cpu.pc := rfl
@[simp] theorem setA_p (d : Byte) : (s.setA d).cpu.p = s.cpu.p := rfl
@[simp] theorem setA_opcode (d : Byte) : (s.setA d).cpu.opcode = s.cpu.opcode := rfl
@[simp] theorem setA_cycles (d : Byte) : (s.setA d).cpu.cycles = s.cpu.cycles := rfl
@[simp] theorem setA_absAddr (d : Byte) : (s.setA d).cpu.absAddr = s.cpu.absAddr := rfl
@[simp] theorem setA_relAddr (d : Byte) : (s.setA d).cpu.relAddr = s.cpu.relAddr := rfl
@[simp] theorem setA_pageCrossed (d : Byte) : (s.setA d).cpu.pageCrossed = s.cpu.pageCrossed := rfl
@[simp] theorem setA_penaltyEligible (d : Byte) : (s.setA d).cpu.penaltyEligible = s.cpu.penaltyEligible := rfl
@[simp] theorem setA_ppu (d : Byte) : (s.setA d).ppu = s.ppu := rfl
@[simp] theorem setA_dma (d : Byte) : (s.setA d).dma = s.dma := rfl
@[simp] theorem setA_ram (d : Byte) : (s.setA d).ram = s.ram := rfl
@[simp] theorem setA_pads (d : Byte) : (s.setA d).pads = s.pads := rfl
@[simp] theorem setA_cart (d : Byte) : (s.setA d).cart = s.cart := rfl
@[simp] theorem setA_ticks (d : Byte) : (s.setA d).ticks = s.ticks := rfl
@[simp] theorem setA_ready (d : Byte) : (s.setA d).ready = s.ready := rfl

/-! ### setX -/

@[simp] theorem setX_a (d : Byte) : (s.setX d).cpu.a = s.cpu.a := rfl
@[simp] theorem setX_x (d : Byte) : (s.setX d).cpu.x = d := rfl
@[simp] theorem setX_y (d : Byte) : (s.setX d).cpu.y = s.cpu.y := rfl
@[simp] theorem setX_sp (d : Byte) : (s.setX d).cpu.sp = s.cpu.sp := rfl
@[simp] theorem setX_pc (d : Byte) : (s.setX d).cpu.pc = s.cpu.pc := rfl
@[simp] theorem setX_p (d : Byte) : (s.setX d).cpu.p = s.cpu.p := rfl
@[simp] theorem setX_opcode (d : Byte) : (s.setX d).cpu.opcode = s.cpu.opcode := rfl
@[simp] theorem setX_cycles (d : Byte) : (s.setX d).cpu.cycles = s.cpu.cycles := rfl
@[simp] theorem setX_absAddr (d : Byte) : (s.setX d).cpu.absAddr = s.cpu.absAddr := rfl
@[simp] theorem setX_relAddr (d : Byte) : (s.setX d).cpu.relAddr = s.cpu.relAddr := rfl
@[simp] theorem setX_pageCrossed (d : Byte) : (s.setX d).cpu.pageCrossed = s.cpu.pageCrossed := rfl
@[simp] theorem setX_penaltyEligible (d : Byte) : (s.setX d).cpu.penaltyEligible = s.cpu.penaltyEligible := rfl
@[simp] theorem setX_ppu (d : Byte) : (s.setX d).ppu = s.ppu := rfl
@[simp] theorem setX_dma (d : Byte) : (s.setX d).dma = s.dma := rfl
@[simp] theorem setX_ram (d : Byte) : (s.setX d).ram = s.ram := rfl
@[simp] theorem setX_pads (d : Byte) : (s.setX d).pads = s.pads := rfl
@[simp] theorem setX_cart (d : Byte) : (s.setX d).cart = s.cart := rfl
@[simp] theorem setX_ticks (d : Byte) : (s.setX d).ticks = s.ticks := rfl
@[simp] theorem setX_ready (d : Byte) : (s.setX d).ready = s.ready := rfl

/-! ### setY -/

@[simp] theorem setY_a (d : Byte) : (s.setY d).cpu.a = s.cpu.a := rfl
@[simp] theorem setY_x (d : Byte) : (s.setY d).cpu.x = s.cpu.x := rfl
@[simp] theorem setY_y (d : Byte) : (s.setY d).cpu.y = d := rfl
@[simp] theorem setY_sp (d : Byte) : (s.setY d).cpu.sp = s.cpu.sp := rfl
@[simp] theorem setY_pc (d : Byte) : (s.setY d).cpu.pc = s.cpu.pc := rfl
@[simp] theorem setY_p (d : Byte) : (s.setY d).cpu.p = s.cpu.p := rfl
@[simp] theorem setY_opcode (d : Byte) : (s.setY d).cpu.opcode = s.cpu.opcode := rfl
@[simp] theorem setY_cycles (d : Byte) : (s.setY d).cpu.cycles = s.cpu.cycles := rfl
@[simp] theorem setY_absAddr (d : Byte) : (s.setY d).cpu.absAddr = s.cpu.absAddr := rfl
@[simp] theorem setY_relAddr (d : Byte) : (s.setY d).cpu.relAddr = s.cpu.relAddr := rfl
@[simp] theorem setY_pageCrossed (d : Byte) : (s.setY d).cpu.pageCrossed = s.cpu.pageCrossed := rfl
@[simp] theorem setY_penaltyEligible (d : Byte) : (s.setY d).cpu.penaltyEligible = s.cpu.penaltyEligible := rfl
@[simp] theorem setY_ppu (d : Byte) : (s.setY d).ppu = s.ppu := rfl
@[simp] theorem setY_dma (d : Byte) : (s.setY d).dma = s.dma := rfl
@[simp] theorem setY_ram (d : Byte) : (s.setY d).ram = s.ram := rfl
@[simp] theorem setY_pads (d : Byte) : (s.setY d).pads = s.pads := rfl
@[simp] theorem setY_cart (d : Byte) : (s.setY d).cart = s.cart := rfl
@[simp] theorem setY_ticks (d : Byte) : (s.setY d).ticks = s.ticks := rfl
@[simp] theorem setY_ready (d : Byte) : (s.setY d).ready = s.ready := rfl

/-! ### setSp -/

@[simp] theorem setSp_a (d : Byte) : (s.setSp d).cpu.a = s.cpu.a := rfl
@[simp] theorem setSp_x (d : Byte) : (s.setSp d).cpu.x = s.cpu.x := rfl
@[simp] theorem setSp_y (d : Byte) : (s.setSp d).cpu.y = s.cpu.y := rfl
@[simp] theorem setSp_sp (d : Byte) : (s.setSp d).cpu.sp = d := rfl
@[simp] theorem setSp_pc (d : Byte) : (s.setSp d).cpu.pc = s.cpu.pc := rfl
@[simp] theorem setSp_p (d : Byte) : (s.setSp d).cpu.p = s.cpu.p := rfl
@[simp] theorem setSp_opcode (d : Byte) : (s.setSp d).cpu.opcode = s.cpu.opcode := rfl
@[simp] theorem setSp_cycles (d : Byte) : (s.setSp d).cpu.cycles = s.cpu.cycles := rfl
@[simp] theorem setSp_absAddr (d : Byte) : (s.setSp d).cpu.absAddr = s.cpu.absAddr := rfl
@[simp] theorem setSp_relAddr (d : Byte) : (s.setSp d).cpu.relAddr = s.cpu.relAddr := rfl
@[simp] theorem setSp_pageCrossed (d : Byte) : (s.setSp d).cpu.pageCrossed = s.cpu.pageCrossed := rfl
@[simp] theorem setSp_penaltyEligible (d : Byte) : (s.setSp d).cpu.penaltyEligible = s.cpu.penaltyEligible := rfl
@[simp] theorem setSp_ppu (d : Byte) : (s.setSp d).ppu = s.ppu := rfl
@[simp] theorem setSp_dma (d : Byte) : (s.setSp d).dma = s.dma := rfl
@[simp] theorem setSp_ram (d : Byte) : (s.setSp d).ram = s.ram := rfl
@[simp] theorem setSp_pads (d : Byte) : (s.setSp d).pads = s.pads := rfl
@[simp] theorem setSp_cart (d : Byte) : (s.setSp d).cart = s.cart := rfl
@[simp] theorem setSp_ticks (d : Byte) : (s.setSp d).ticks = s.ticks := rfl
@[simp] theorem setSp_ready (d : Byte) : (s.setSp d).ready = s.ready := rfl

/-! ### setPc -/

@[simp] theorem setPc_a (d : Word) : (s.setPc d).cpu.a = s.cpu.a := rfl
@[simp] theorem setPc_x (d : Word) : (s.setPc d).cpu.x = s.cpu.x := rfl
@[simp] theorem setPc_y (d : Word) : (s.setPc d).cpu.y = s.cpu.y := rfl
@[simp] theorem setPc_sp (d : Word) : (s.setPc d).cpu.sp = s.cpu.sp := rfl
@[simp] theorem setPc_pc (d : Word) : (s.setPc d).cpu.pc = d := rfl
@[simp] theorem setPc_p (d : Word) : (s.setPc d).cpu.p = s.cpu.p := rfl
@[simp] theorem setPc_opcode (d : Word) : (s.setPc d).cpu.opcode = s.cpu.opcode := rfl
@[simp] theorem setPc_cycles (d : Word) : (s.setPc d).cpu.cycles = s.cpu.cycles := rfl
@[simp] theorem setPc_absAddr (d : Word) : (s.setPc d).cpu.absAddr = s.cpu.absAddr := rfl
@[simp] theorem setPc_relAddr (d : Word) : (s.setPc d).cpu.relAddr = s.cpu.relAddr := rfl
@[simp] theorem setPc_pageCrossed (d : Word) : (s.setPc d).cpu.pageCrossed = s.cpu.pageCrossed := rfl
@[simp] theorem setPc_penaltyEligible (d : Word) : (s.setPc d).cpu.penaltyEligible = s.cpu.penaltyEligible := rfl
@[simp] theorem setPc_ppu (d : Word) : (s.setPc d).ppu = s.ppu := rfl
@[simp] theorem setPc_dma (d : Word) : (s.setPc d).dma = s.dma := rfl
@[simp] theorem setPc_ram (d : Word) : (s.setPc d).ram = s.ram := rfl
@[simp] theorem setPc_pads (d : Word) : (s.setPc d).pads = s.pads := rfl
@[simp] theorem setPc_cart (d : Word) : (s.setPc d).cart = s.cart := rfl
@[simp] theorem setPc_ticks (d : Word) : (s.setPc d).ticks = s.ticks := rfl
@[simp] theorem setPc_ready (d : Word) : (s.setPc d).ready = s.ready := rfl

/-! ### setP -/

@[simp] theorem setP_a (d : Byte) : (s.setP d).cpu.a = s.cpu.a := rfl
@[simp] theorem setP_x (d : Byte) : (s.setP d).cpu.x = s.cpu.x := rfl
@[simp] theorem setP_y (d : Byte) : (s.setP d).cpu.y = s.cpu.y := rfl
@[simp] theorem setP_sp (d : Byte) : (s.setP d).cpu.sp = s.cpu.sp := rfl
@[simp] theorem setP_pc (d : Byte) : (s.setP d).cpu.pc = s.cpu.pc := rfl
@[simp] theorem setP_p (d : Byte) : (s.setP d).cpu.p = d := rfl
@[simp] theorem setP_opcode (d : Byte) : (s.setP d).cpu.opcode = s.cpu.opcode := rfl
@[simp] theorem setP_cycles (d : Byte) : (s.setP d).cpu.cycles = s.cpu.cycles := rfl
@[simp] theorem setP_absAddr (d : Byte) : (s.setP d).cpu.absAddr = s.cpu.absAddr := rfl
@[simp] theorem setP_relAddr (d : Byte) : (s.setP d).cpu.relAddr = s.cpu.relAddr := rfl
@[simp] theorem setP_pageCrossed (d : Byte) : (s.setP d).cpu.pageCrossed = s.cpu.pageCrossed := rfl
@[simp] theorem setP_penaltyEligible (d : Byte) : (s.setP d).cpu.penaltyEligible = s.cpu.penaltyEligible := rfl
@[simp] theorem setP_ppu (d : Byte) : (s.setP d).ppu = s.ppu := rfl
@[simp] theorem setP_dma (d : Byte) : (s.setP d).dma = s.dma := rfl
@[simp] theorem setP_ram (d : Byte) : (s.setP d).ram = s.ram := rfl
@[simp] theorem setP_pads (d : Byte) : (s.setP d).pads = s.pads := rfl
@[simp] theorem setP_cart (d : Byte) : (s.setP d).cart = s.cart := rfl
@[simp] theorem setP_ticks (d : Byte) : (s.setP d).ticks = s.ticks := rfl
@[simp] theorem setP_ready (d : Byte) : (s.setP d).ready = s.ready := rfl

/-! ### setOpcode -/

@[simp] theorem setOpcode_a (d : Byte) : (s.setOpcode d).cpu.a = s.cpu.a := rfl
@[simp] theorem setOpcode_x (d : Byte) : (s.setOpcode d).cpu.x = s.cpu.x := rfl
@[simp] theorem setOpcode_y (d : Byte) : (s.setOpcode d).cpu.y = s.cpu.y := rfl
@[simp] theorem setOpcode_sp (d : Byte) : (s.setOpcode d).cpu.sp = s.cpu.sp := rfl
@[simp] theorem setOpcode_pc (d : Byte) : (s.setOpcode d).cpu.pc = s.cpu.pc := rfl
@[simp] theorem setOpcode_p (d : Byte) : (s.setOpcode d).cpu.p = s.cpu.p := rfl
@[simp] theorem setOpcode_opcode (d : Byte) : (s.setOpcode d).cpu.opcode = d := rfl
@[simp] theorem setOpcode_cycles (d : Byte) : (s.setOpcode d).cpu.cycles = s.cpu.cycles := rfl
@[simp] theorem setOpcode_absAddr (d : Byte) : (s.setOpcode d).cpu.absAddr = s.cpu.absAddr := rfl
@[simp] theorem setOpcode_relAddr (d : Byte) : (s.setOpcode d).cpu.relAddr = s.cpu.relAddr := rfl
@[simp] theorem setOpcode_pageCrossed (d : Byte) : (s.setOpcode d).cpu.pageCrossed = s.cpu.pageCrossed := rfl
@[simp] theorem setOpcode_penaltyEligible (d : Byte) : (s.setOpcode d).cpu.penaltyEligible = s.cpu.penaltyEligible := rfl
@[simp] theorem setOpcode_ppu (d : Byte) : (s.setOpcode d).ppu = s.ppu := rfl
@[simp] theorem setOpcode_dma (d : Byte) : (s.setOpcode d).dma = s.dma := rfl
@[simp] theorem setOpcode_ram (d : Byte) : (s.setOpcode d).ram = s.ram := rfl
@[simp] theorem setOpcode_pads (d : Byte) : (s.setOpcode d).pads = s.pads := rfl
@[simp] theorem setOpcode_cart (d : Byte) : (s.setOpcode d).cart = s.cart := rfl
@[simp] theorem setOpcode_ticks (d : Byte) : (s.setOpcode d).ticks = s.ticks := rfl
@[simp] theorem setOpcode_ready (d : Byte) : (s.setOpcode d).ready = s.ready := rfl

/-! ### setCycles -/

@[simp] theorem setCycles_a (d : Nat) : (s.setCycles d).cpu.a = s.cpu.a := rfl
@[simp] theorem setCycles_x (d : Nat) : (s.setCycles d).cpu.x = s.cpu.x := rfl
@[simp] theorem setCycles_y (d : Nat) : (s.setCycles d).cpu.y = s.cpu.y := rfl
@[simp] theorem setCycles_sp (d : Nat) : (s.setCycles d).cpu.sp = s.cpu.sp := rfl
@[simp] theorem setCycles_pc (d : Nat) : (s.setCycles d).cpu.pc = s.cpu.pc := rfl
@[simp] theorem setCycles_p (d : Nat) : (s.setCycles d).cpu.p = s.cpu.p := rfl
@[simp] theorem setCycles_opcode (d : Nat) : (s.setCycles d).cpu.opcode = s.cpu.opcode := rfl
@[simp] theorem setCycles_cycles (d : Nat) : (s.setCycles d).cpu.cycles = d := rfl
@[simp] theorem setCycles_absAddr (d : Nat) : (s.setCycles d).cpu.absAddr = s.cpu.absAddr := rfl
@[simp] theorem setCycles_relAddr (d : Nat) : (s.setCycles d).cpu.relAddr = s.cpu.relAddr := rfl
@[simp] theorem setCycles_pageCrossed (d : Nat) : (s.setCycles d).cpu.pageCrossed = s.cpu.pageCrossed := rfl
@[simp] theorem setCycles_penaltyEligible (d : Nat) : (s.setCycles d).cpu.penaltyEligible = s.cpu.penaltyEligible := rfl
@[simp] theorem setCycles_ppu (d : Nat) : (s.setCycles d).ppu = s.ppu := rfl
@[simp] theorem setCycles_dma (d : Nat) : (s.setCycles d).dma = s.dma := rfl
@[simp] theorem setCycles_ram (d : Nat) : (s.setCycles d).ram = s.ram := rfl
@[simp] theorem setCycles_pads (d : Nat) : (s.setCycles d).pads = s.pads := rfl
@[simp] theorem setCycles_cart (d : Nat) : (s.setCycles d).cart = s.cart := rfl
@[simp] theorem setCycles_ticks (d : Nat) : (s.setCycles d).ticks = s.ticks := rfl
@[simp] theorem setCycles_ready (d : Nat) : (s.setCycles d).ready = s.ready := rfl

/-! ### setAbsAddr -/

@[simp] theorem setAbsAddr_a (d : Word) : (s.setAbsAddr d).cpu.a = s.cpu.a := rfl
@[simp] theorem setAbsAddr_x (d : Word) : (s.setAbsAddr d).cpu.x = s.cpu.x := rfl
@[simp] theorem setAbsAddr_y (d : Word) : (s.setAbsAddr d).cpu.y = s.cpu.y := rfl
@[simp] theorem setAbsAddr_sp (d : Word) : (s.setAbsAddr d).cpu.sp = s.cpu.sp := rfl
@[simp] theorem setAbsAddr_pc (d : Word) : (s.setAbsAddr d).cpu.pc = s.cpu.pc := rfl
@[simp] theorem setAbsAddr_p (d : Word) : (s.setAbsAddr d).cpu.p = s.cpu.p := rfl
@[simp] theorem setAbsAddr_opcode (d : Word) : (s.setAbsAddr d).cpu.opcode = s.cpu.opcode := rfl
@[simp] theorem setAbsAddr_cycles (d : Word) : (s.setAbsAddr d).cpu.cycles = s.cpu.cycles := rfl
@[simp] theorem setAbsAddr_absAddr (d : Word) : (s.setAbsAddr d).cpu.absAddr = d := rfl
@[simp] theorem setAbsAddr_relAddr (d : Word) : (s.setAbsAddr d).cpu.relAddr = s.cpu.relAddr := rfl
@[simp] theorem setAbsAddr_pageCrossed (d : Word) : (s.setAbsAddr d).cpu.pageCrossed = s.cpu.pageCrossed := rfl
@[simp] theorem setAbsAddr_penaltyEligible (d : Word) : (s.setAbsAddr d).cpu.penaltyEligible = s.cpu.penaltyEligible := rfl
@[simp] theorem setAbsAddr_ppu (d : Word) : (s.setAbsAddr d).ppu = s.ppu := rfl
@[simp] theorem setAbsAddr_dma (d : Word) : (s.setAbsAddr d).dma = s.dma := rfl
@[simp] theorem setAbsAddr_ram (d : Word) : (s.setAbsAddr d).ram = s.ram := rfl
@[simp] theorem setAbsAddr_pads (d : Word) : (s.setAbsAddr d).pads = s.pads := rfl
@[simp] theorem setAbsAddr_cart (d : Word) : (s.setAbsAddr d).cart = s.cart := rfl
@[simp] theorem setAbsAddr_ticks (d : Word) : (s.setAbsAddr d).ticks = s.ticks := rfl
@[simp] theorem setAbsAddr_ready (d : Word) : (s.setAbsAddr d).ready = s.ready := rfl

/-! ### setRelAddr -/

@[simp] theorem setRelAddr_a (d : Word) : (s.setRelAddr d).cpu.a = s.cpu.a := rfl
@[simp] theorem setRelAddr_x (d : Word) : (s.setRelAddr d).cpu.x = s.cpu.x := rfl
@[simp] theorem setRelAddr_y (d : Word) : (s.setRelAddr d).cpu.y = s.cpu.y := rfl
@[simp] theorem setRelAddr_sp (d : Word) : (s.setRelAddr d).cpu.sp = s.cpu.sp := rfl
@[simp] theorem setRelAddr_pc (d : Word) : (s.setRelAddr d).cpu.pc = s.cpu.pc := rfl
@[simp] theorem setRelAddr_p (d : Word) : (s.setRelAddr d).cpu.p = s.cpu.p := rfl
@[simp] theorem setRelAddr_opcode (d : Word) : (s.setRelAddr d).cpu.opcode = s.cpu.opcode := rfl
@[simp] theorem setRelAddr_cycles (d : Word) : (s.setRelAddr d).cpu.cycles = s.cpu.cycles := rfl
@[simp] theorem setRelAddr_absAddr (d : Word) : (s.setRelAddr d).cpu.absAddr = s.cpu.absAddr := rfl
@[simp] theorem setRelAddr_relAddr (d : Word) : (s.setRelAddr d).cpu.relAddr = d := rfl
@[simp] theorem setRelAddr_pageCrossed (d : Word) : (s.setRelAddr d).cpu.pageCrossed = s.cpu.pageCrossed := rfl
@[simp] theorem setRelAddr_penaltyEligible (d : Word) : (s.setRelAddr d).cpu.penaltyEligible = s.cpu.penaltyEligible := rfl
@[simp] theorem setRelAddr_ppu (d : Word) : (s.setRelAddr d).ppu = s.ppu := rfl
@[simp] theorem setRelAddr_dma (d : Word) : (s.setRelAddr d).dma = s.dma := rfl
@[simp] theorem setRelAddr_ram (d : Word) : (s.setRelAddr d).ram = s.ram := rfl
@[simp] theorem setRelAddr_pads (d : Word) : (s.setRelAddr d).pads = s.pads := rfl
@[simp] theorem setRelAddr_cart (d : Word) : (s.setRelAddr d).cart = s.cart := rfl
@[simp] theorem setRelAddr_ticks (d : Word) : (s.setRelAddr d).ticks = s.ticks := rfl
@[simp] theorem setRelAddr_ready (d : Word) : (s.setRelAddr d).ready = s.ready := rfl

/-! ### setPageCrossed -/

@[simp] theorem setPageCrossed_a (d : Bool) : (s.setPageCrossed d).cpu.a = s.cpu.a := rfl
@[simp] theorem setPageCrossed_x (d : Bool) : (s.setPageCrossed d).cpu.x = s.cpu.x := rfl
@[simp] theorem setPageCrossed_y (d : Bool) : (s.setPageCrossed d).cpu.y = s.cpu.y := rfl
@[simp] theorem setPageCrossed_sp (d : Bool) : (s.setPageCrossed d).cpu.sp = s.cpu.sp := rfl
@[simp] theorem setPageCrossed_pc (d : Bool) : (s.setPageCrossed d).cpu.pc = s.cpu.pc := rfl
@[simp] theorem setPageCrossed_p (d : Bool) : (s.setPageCrossed d).cpu.p = s.cpu.p := rfl
@[simp] theorem setPageCrossed_opcode (d : Bool) : (s.setPageCrossed d).cpu.opcode = s.cpu.opcode := rfl
@[simp] theorem setPageCrossed_cycles (d : Bool) : (s.setPageCrossed d).cpu.cycles = s.cpu.cycles := rfl
@[simp] theorem setPageCrossed_absAddr (d : Bool) : (s.setPageCrossed d).cpu.absAddr = s.cpu.absAddr := rfl
@[simp] theorem setPageCrossed_relAddr (d : Bool) : (s.setPageCrossed d).cpu.relAddr = s.cpu.relAddr := rfl
@[simp] theorem setPageCrossed_pageCrossed (d : Bool) : (s.setPageCrossed d).cpu.pageCrossed = d := rfl
@[simp] theorem setPageCrossed_penaltyEligible (d : Bool) : (s.setPageCrossed d).cpu.penaltyEligible = s.cpu.penaltyEligible := rfl
@[simp] theorem setPageCrossed_ppu (d : Bool) : (s.setPageCrossed d).ppu = s.ppu := rfl
@[simp] theorem setPageCrossed_dma (d : Bool) : (s.setPageCrossed d).dma = s.dma := rfl
@[simp] theorem setPageCrossed_ram (d : Bool) : (s.setPageCrossed d).ram = s.ram := rfl
@[simp] theorem setPageCrossed_pads (d : Bool) : (s.setPageCrossed d).pads = s.pads := rfl
@[simp] theorem setPageCrossed_cart (d : Bool) : (s.setPageCrossed d).cart = s.cart := rfl
@[simp] theorem setPageCrossed_ticks (d : Bool) : (s.setPageCrossed d).ticks = s.ticks := rfl
@[simp] theorem setPageCrossed_ready (d : Bool) : (s.setPageCrossed d).ready = s.ready := rfl

/-! ### setPenaltyEligible -/

@[simp] theorem setPenaltyEligible_a (d : Bool) : (s.setPenaltyEligible d).cpu.a = s.cpu.a := rfl
@[simp] theorem setPenaltyEligible_x (d : Bool) : (s.setPenaltyEligible d).cpu.x = s.cpu.x := rfl
@[simp] theorem setPenaltyEligible_y (d : Bool) : (s.setPenaltyEligible d).cpu.y = s.cpu.y := rfl
@[simp] theorem setPenaltyEligible_sp (d : Bool) : (s.setPenaltyEligible d).cpu.sp = s.cpu.sp := rfl
@[simp] theorem setPenaltyEligible_pc (d : Bool) : (s.setPenaltyEligible d).cpu.pc = s.cpu.pc := rfl
@[simp] theorem setPenaltyEligible_p (d : Bool) : (s.setPenaltyEligible d).cpu.p = s.cpu.p := rfl
@[simp] theorem setPenaltyEligible_opcode (d : Bool) : (s.setPenaltyEligible d).cpu.opcode = s.cpu.opcode := rfl
@[simp] theorem setPenaltyEligible_cycles (d : Bool) : (s.setPenaltyEligible d).cpu.cycles = s.cpu.cycles := rfl
@[simp] theorem setPenaltyEligible_absAddr (d : Bool) : (s.setPenaltyEligible d).cpu.absAddr = s.cpu.absAddr := rfl
@[simp] theorem setPenaltyEligible_relAddr (d : Bool) : (s.setPenaltyEligible d).cpu.relAddr = s.cpu.relAddr := rfl
@[simp] theorem setPenaltyEligible_pageCrossed (d : Bool) : (s.setPenaltyEligible d).cpu.pageCrossed = s.cpu.pageCrossed := rfl
@[simp] theorem setPenaltyEligible_penaltyEligible (d : Bool) : (s.setPenaltyEligible d).cpu.penaltyEligible = d := rfl
@[simp] theorem setPenaltyEligible_ppu (d : Bool) : (s.setPenaltyEligible d).ppu = s.ppu := rfl
@[simp] theorem setPenaltyEligible_dma (d : Bool) : (s.setPenaltyEligible d).dma = s.dma := rfl
@[simp] theorem setPenaltyEligible_ram (d : Bool) : (s.setPenaltyEligible d).ram = s.ram := rfl
@[simp] theorem setPenaltyEligible_pads (d : Bool) : (s.setPenaltyEligible d).pads = s.pads := rfl
@[simp] theorem setPenaltyEligible_cart (d : Bool) : (s.setPenaltyEligible d).cart = s.cart := rfl
@[simp] theorem setPenaltyEligible_ticks (d : Bool) : (s.setPenaltyEligible d).ticks = s.ticks := rfl
@[simp] theorem setPenaltyEligible_ready (d : Bool) : (s.setPenaltyEligible d).ready = s.ready := rfl

/-! ### RAM -/

@[simp] theorem setRamByte_cpu (a : Word) (d : Byte) : (s.setRamByte a d).cpu = s.cpu := rfl
@[simp] theorem setRamByte_ppu (a : Word) (d : Byte) : (s.setRamByte a d).ppu = s.ppu := rfl
@[simp] theorem setRamByte_dma (a : Word) (d : Byte) : (s.setRamByte a d).dma = s.dma := rfl
@[simp] theorem setRamByte_pads (a : Word) (d : Byte) : (s.setRamByte a d).pads = s.pads := rfl
@[simp] theorem setRamByte_cart (a : Word) (d : Byte) : (s.setRamByte a d).cart = s.cart := rfl
@[simp] theorem setRamByte_ticks (a : Word) (d : Byte) : (s.setRamByte a d).ticks = s.ticks := rfl
@[simp] theorem setRamByte_ready (a : Word) (d : Byte) : (s.setRamByte a d).ready = s.ready := rfl
@[simp] theorem ramByte_setA (a : Word) (d : Byte) : (s.setA d).ramByte a = s.ramByte a := rfl
@[simp] theorem ramByte_setX (a : Word) (d : Byte) : (s.setX d).ramByte a = s.ramByte a := rfl
@[simp] theorem ramByte_setY (a : Word) (d : Byte) : (s.setY d).ramByte a = s.ramByte a := rfl
@[simp] theorem ramByte_setSp (a : Word) (d : Byte) : (s.setSp d).ramByte a = s.ramByte a := rfl
@[simp] theorem ramByte_setPc (a : Word) (d : Word) : (s.setPc d).ramByte a = s.ramByte a := rfl
@[simp] theorem ramByte_setP (a : Word) (d : Byte) : (s.setP d).ramByte a = s.ramByte a := rfl
@[simp] theorem ramByte_setOpcode (a : Word) (d : Byte) : (s.setOpcode d).ramByte a = s.ramByte a := rfl
@[simp] theorem ramByte_setCycles (a : Word) (d : Nat) : (s.setCycles d).ramByte a = s.ramByte a := rfl
@[simp] theorem ramByte_setAbsAddr (a : Word) (d : Word) : (s.setAbsAddr d).ramByte a = s.ramByte a := rfl
@[simp] theorem ramByte_setRelAddr (a : Word) (d : Word) : (s.setRelAddr d).ramByte a = s.ramByte a := rfl
@[simp] theorem ramByte_setPageCrossed (a : Word) (d : Bool) : (s.setPageCrossed d).ramByte a = s.ramByte a := rfl
@[simp] theorem ramByte_setPenaltyEligible (a : Word) (d : Bool) : (s.setPenaltyEligible d).ramByte a = s.ramByte a := rfl

end Sys2Proof.Machine
end

