-- ==== Sys2Proof/Laws/Bus.lean ====
section
/-! SUPPORT. What a bus access can do: it changes the device the decode selects and nothing else. -/

namespace Sys2Proof.Machine

variable (a : Word) (d : Byte) (s : State)

/-! ### Byte order -/

theorem getLsbD_wordOf (lo hi : Byte) (i : Nat) :
    (wordOf lo hi).getLsbD i = if i < 8 then lo.getLsbD i else hi.getLsbD (i - 8) :=
  (BitVec.getLsbD_append (x := hi) (y := lo) (i := i)).trans (by cases h : decide (i < 8) <;> simp_all)

@[simp] theorem loByte_wordOf (lo hi : Byte) : loByte (wordOf lo hi) = lo := by
  refine BitVec.eq_of_getLsbD_eq fun i h => ?_
  rw [loByte, BitVec.getLsbD_extractLsb', getLsbD_wordOf]
  simp [h]

@[simp] theorem hiByte_wordOf (lo hi : Byte) : hiByte (wordOf lo hi) = hi := by
  refine BitVec.eq_of_getLsbD_eq fun i h => ?_
  rw [hiByte, BitVec.getLsbD_extractLsb', getLsbD_wordOf]
  simp [h]

@[simp] theorem wordOf_loByte_hiByte (w : Word) : wordOf (loByte w) (hiByte w) = w := by
  refine BitVec.eq_of_getLsbD_eq fun i hi => ?_
  rw [getLsbD_wordOf, loByte, hiByte, BitVec.getLsbD_extractLsb', BitVec.getLsbD_extractLsb']
  split
  · next h => simp [h]
  · next h => simp [show i - 8 < 8 by omega, show 8 + (i - 8) = i by omega]

theorem wordOf_toNat (lo hi : Byte) : (wordOf lo hi).toNat = 256 * hi.toNat + lo.toNat := by
  have := lo.isLt
  simp only [wordOf, BitVec.toNat_append]
  rw [← Nat.shiftLeft_add_eq_or_of_lt this]
  simp [Nat.shiftLeft_eq]
  omega

/-! ### RAM -/

theorem ramByte_setRamByte (h : s.ram.wf zeroByte) (b : Word) :
    (s.setRamByte a d).ramByte b = if b.toNat % 0x800 = a.toNat % 0x800 then d else s.ramByte b := by
  unfold State.ramByte State.setRamByte
  split
  · next hb => simp only [hb]; exact Memory.read_write_same zeroByte h _ _
  · next hb => exact Memory.read_write_other zeroByte _ d hb

theorem ramByte_setRamByte_other {b : Word} (h : b.toNat % 0x800 ≠ a.toNat % 0x800) :
    (s.setRamByte a d).ramByte b = s.ramByte b := Memory.read_write_other zeroByte _ d h

theorem setRamByte_wf (h : s.ram.wf zeroByte) : (s.setRamByte a d).ram.wf zeroByte := Memory.write_wf zeroByte h _ _

/-! ### Reads -/

/-- A read changes the PPU, or the controller ports, or nothing. -/
theorem memRead_cases :
    (memRead a s).2 = s ∨ (∃ p, (memRead a s).2 = { s with ppu := p }) ∨
      (∃ q, (memRead a s).2 = { s with pads := q }) := by
  unfold memRead cpuRead
  split
  · exact .inl rfl
  · split
    · exact .inl rfl
    · split
      · exact .inr (.inl ⟨_, rfl⟩)
      · split
        · exact .inr (.inr ⟨_, rfl⟩)
        · exact .inl rfl

@[simp] theorem memRead_cpu : (memRead a s).2.cpu = s.cpu := by
  rcases memRead_cases a s with h | ⟨_, h⟩ | ⟨_, h⟩ <;> rw [h]

@[simp] theorem memRead_dma : (memRead a s).2.dma = s.dma := by
  rcases memRead_cases a s with h | ⟨_, h⟩ | ⟨_, h⟩ <;> rw [h]

@[simp] theorem memRead_ram : (memRead a s).2.ram = s.ram := by
  rcases memRead_cases a s with h | ⟨_, h⟩ | ⟨_, h⟩ <;> rw [h]

@[simp] theorem memRead_cart : (memRead a s).2.cart = s.cart := by
  rcases memRead_cases a s with h | ⟨_, h⟩ | ⟨_, h⟩ <;> rw [h]

@[simp] theorem memRead_ticks : (memRead a s).2.ticks = s.ticks := by
  rcases memRead_cases a s with h | ⟨_, h⟩ | ⟨_, h⟩ <;> rw [h]

@[simp] theorem memRead_ready : (memRead a s).2.ready = s.ready := by
  rcases memRead_cases a s with h | ⟨_, h⟩ | ⟨_, h⟩ <;> rw [h]

@[simp] theorem memRead_ramByte (b : Word) : (memRead a s).2.ramByte b = s.ramByte b := by
  simp only [State.ramByte, memRead_ram]

theorem cartCpuRead_low {cart : Option Cartridge} (h : a.toNat < 0x8000) : cartCpuRead cart a = none := by
  unfold cartCpuRead
  split
  · simp; omega
  · rfl

/-- A read below 0x2000 is a read of RAM, with no side effect. -/
theorem memRead_low (h : a.toNat ≤ 0x1FFF) : memRead a s = (s.ramByte a, s) := by
  simp only [memRead, cpuRead, cartCpuRead_low a (show a.toNat < 0x8000 by omega), h, if_true]

/-- A read from 0x8000 on is a read of PRG ROM, or of nothing, with no side effect. -/
theorem memRead_high (h : 0x8000 ≤ a.toNat) :
    memRead a s = ((match s.cart with | some c => c.prgByte a | none => 0), s) := by
  have hp : ¬ (a = 0x4016 ∨ a = 0x4017) := by rintro (rfl | rfl) <;> simp at h
  cases hc : s.cart with
  | some c => simp [memRead, cpuRead, cartCpuRead, hc, h]
  | none =>
    simp only [memRead, cpuRead, cartCpuRead, hc, hp, show ¬ a.toNat ≤ 0x1FFF by omega,
      show ¬ a.toNat ≤ 0x3FFF by omega, if_false]

/-- A read of the PPU window. -/
theorem memRead_ppu (h1 : 0x2000 ≤ a.toNat) (h2 : a.toNat ≤ 0x3FFF) :
    memRead a s = (ppuRegValue s.cart (ppuReg a) s.ppu, { s with ppu := ppuRegReadEffect s.cart (ppuReg a) s.ppu }) := by
  simp [memRead, cpuRead, cartCpuRead_low a (show a.toNat < 0x8000 by omega), show ¬ a.toNat ≤ 0x1FFF by omega, h2]

/-! ### Writes -/

/-- A write changes RAM, the PPU, the DMA engine, the controller ports, or nothing. -/
theorem memWrite_cases :
    (a.toNat ≤ 0x1FFF ∧ memWrite a d s = s.setRamByte a d) ∨
      (0x1FFF < a.toNat ∧
        (memWrite a d s = s ∨ (∃ p, memWrite a d s = { s with ppu := p }) ∨
          (∃ e, memWrite a d s = { s with dma := e }) ∨ (∃ q, memWrite a d s = { s with pads := q }))) := by
  unfold memWrite
  split
  · next h => exact .inl ⟨h, rfl⟩
  · next h =>
    refine .inr ⟨by omega, ?_⟩
    split
    · exact .inr (.inl ⟨_, rfl⟩)
    · split
      · exact .inr (.inr (.inl ⟨_, rfl⟩))
      · split
        · exact .inr (.inr (.inr ⟨_, rfl⟩))
        · exact .inl rfl

@[simp] theorem memWrite_cpu : (memWrite a d s).cpu = s.cpu := by
  rcases memWrite_cases a d s with ⟨-, h⟩ | ⟨-, h | ⟨_, h⟩ | ⟨_, h⟩ | ⟨_, h⟩⟩ <;> simp [h]

@[simp] theorem memWrite_cart : (memWrite a d s).cart = s.cart := by
  rcases memWrite_cases a d s with ⟨-, h⟩ | ⟨-, h | ⟨_, h⟩ | ⟨_, h⟩ | ⟨_, h⟩⟩ <;> simp [h]

@[simp] theorem memWrite_ticks : (memWrite a d s).ticks = s.ticks := by
  rcases memWrite_cases a d s with ⟨-, h⟩ | ⟨-, h | ⟨_, h⟩ | ⟨_, h⟩ | ⟨_, h⟩⟩ <;> simp [h]

@[simp] theorem memWrite_ready : (memWrite a d s).ready = s.ready := by
  rcases memWrite_cases a d s with ⟨-, h⟩ | ⟨-, h | ⟨_, h⟩ | ⟨_, h⟩ | ⟨_, h⟩⟩ <;> simp [h]

/-- A write below 0x2000 is a write of RAM. -/
theorem memWrite_low (h : a.toNat ≤ 0x1FFF) : memWrite a d s = s.setRamByte a d := by simp [memWrite, h]

/-- A write anywhere else leaves RAM alone. -/
theorem memWrite_ram_other (h : 0x1FFF < a.toNat) : (memWrite a d s).ram = s.ram := by
  rcases memWrite_cases a d s with ⟨h', -⟩ | ⟨-, h | ⟨_, h⟩ | ⟨_, h⟩ | ⟨_, h⟩⟩
  · omega
  all_goals rw [h]

/-- A write of the PPU window. -/
theorem memWrite_ppu (h1 : 0x2000 ≤ a.toNat) (h2 : a.toNat ≤ 0x3FFF) :
    memWrite a d s = { s with ppu := ppuRegWrite s.cart (ppuReg a) d s.ppu } := by
  simp [memWrite, show ¬ a.toNat ≤ 0x1FFF by omega, h2]

/-! ### Two reads -/

@[simp] theorem memRead16_cpu (b : Word) : (memRead16 a b s).2.cpu = s.cpu := by simp [memRead16]

@[simp] theorem memRead16_dma (b : Word) : (memRead16 a b s).2.dma = s.dma := by simp [memRead16]

@[simp] theorem memRead16_ram (b : Word) : (memRead16 a b s).2.ram = s.ram := by simp [memRead16]

@[simp] theorem memRead16_cart (b : Word) : (memRead16 a b s).2.cart = s.cart := by simp [memRead16]

@[simp] theorem memRead16_ticks (b : Word) : (memRead16 a b s).2.ticks = s.ticks := by simp [memRead16]

@[simp] theorem memRead16_ready (b : Word) : (memRead16 a b s).2.ready = s.ready := by simp [memRead16]

/-- Two reads below 0x2000 read RAM and change nothing. -/
theorem memRead16_low {b : Word} (ha : a.toNat ≤ 0x1FFF) (hb : b.toNat ≤ 0x1FFF) :
    memRead16 a b s = (wordOf (s.ramByte a) (s.ramByte b), s) := by
  simp only [memRead16, memRead_low a s ha, memRead_low b s hb]

/-- The word a vector holds: in PRG ROM, or 0 with no cartridge. -/
def State.vectorWord (a : Word) (s : State) : Word :=
  match s.cart with
  | some c => wordOf (c.prgByte a) (c.prgByte (a + 1))
  | none => 0

/-- Two reads from 0x8000 on change nothing. -/
theorem memRead16_high {a : Word} (ha : 0x8000 ≤ a.toNat) (hb : 0x8000 ≤ (a + 1).toNat) :
    memRead16 a (a + 1) s = (s.vectorWord a, s) := by
  simp only [memRead16, memRead_high a s ha, memRead_high (a + 1) s hb, State.vectorWord]
  cases s.cart
  · exact congrArg (·, s) (show wordOf 0 0 = 0 by decide)
  · rfl

end Sys2Proof.Machine
end

