-- ==== Sys2Proof/Laws/Flags.lean ====
section
/-! SUPPORT. Bits of a byte, and reading a flag after one was written. -/

namespace Sys2Proof.Machine

theorem getLsbD_setBit (k : Nat) (b : Bool) (x : Byte) (hk : k < 8) (j : Nat) :
    (setBit k b x).getLsbD j = if j = k then b else x.getLsbD j := by
  unfold setBit
  by_cases hj : j < 8
  · have h8 : ∀ i : Nat, i < 8 → i = 0 ∨ i = 1 ∨ i = 2 ∨ i = 3 ∨ i = 4 ∨ i = 5 ∨ i = 6 ∨ i = 7 := by omega
    rcases h8 k hk with rfl | rfl | rfl | rfl | rfl | rfl | rfl | rfl <;>
      rcases h8 j hj with rfl | rfl | rfl | rfl | rfl | rfl | rfl | rfl <;> cases b <;> simp
  · have h1 : j ≠ k := by omega
    have h2 : ∀ y : Byte, y.getLsbD j = false := fun y => BitVec.getLsbD_of_ge y j (by omega)
    simp [h1, h2]

theorem Flag.bit_lt (f : Flag) : f.bit < 8 := by cases f <;> decide

theorem Flag.bit_inj {f g : Flag} : f.bit = g.bit ↔ f = g := by cases f <;> cases g <;> decide

@[simp] theorem getFlag_setFlag (f g : Flag) (b : Bool) (p : Byte) :
    getFlag g (setFlag f b p) = if g = f then b else getFlag g p := by
  simp only [getFlag, setFlag, getLsbD_setBit _ _ _ f.bit_lt, Flag.bit_inj]

@[simp] theorem getFlag_setZN (g : Flag) (r p : Byte) :
    getFlag g (setZN r p) = if g = .n then r.getLsbD 7 else if g = .z then r == 0 else getFlag g p := by
  simp only [setZN, getFlag_setFlag]

/-- Two status bytes with the same flags are equal. -/
theorem eq_of_getFlag {p q : Byte} (h : ∀ f, getFlag f p = getFlag f q) : p = q := by
  have h0 := h .c; have h1 := h .z; have h2 := h .i; have h3 := h .d
  have h4 := h .b; have h5 := h .u; have h6 := h .v; have h7 := h .n
  simp only [getFlag, Flag.bit] at h0 h1 h2 h3 h4 h5 h6 h7
  refine BitVec.eq_of_getLsbD_eq fun i hi => ?_
  have : i = 0 ∨ i = 1 ∨ i = 2 ∨ i = 3 ∨ i = 4 ∨ i = 5 ∨ i = 6 ∨ i = 7 := by omega
  rcases this with rfl | rfl | rfl | rfl | rfl | rfl | rfl | rfl <;> assumption

theorem getFlag_addFlags (g : Flag) (a m p : Byte) :
    getFlag g (addFlags a m p) =
      if g = .v then (~~~(a ^^^ m) &&& (a ^^^ addResult a m (getFlag .c p))).getLsbD 7
      else if g = .n then (addResult a m (getFlag .c p)).getLsbD 7
      else if g = .z then addResult a m (getFlag .c p) == 0
      else if g = .c then decide (0xFF < addSum a m (getFlag .c p))
      else getFlag g p := by
  simp only [addFlags, getFlag_setFlag, getFlag_setZN]

theorem getFlag_compareFlags (g : Flag) (r m p : Byte) :
    getFlag g (compareFlags r m p) =
      if g = .n then ((zext16 r - zext16 m).extractLsb' 0 8).getLsbD 7
      else if g = .z then (zext16 r - zext16 m).extractLsb' 0 8 == 0
      else if g = .c then decide (m.toNat ≤ r.toNat)
      else getFlag g p := by
  simp only [compareFlags, getFlag_setFlag, getFlag_setZN]

theorem getFlag_bitFlags (g : Flag) (a m p : Byte) :
    getFlag g (bitFlags a m p) =
      if g = .v then m.getLsbD 6 else if g = .n then m.getLsbD 7 else if g = .z then a &&& m == 0
      else getFlag g p := by
  simp only [bitFlags, getFlag_setFlag]

theorem getFlag_shiftFlags (g : Flag) (r : Byte × Bool) (p : Byte) :
    getFlag g (shiftFlags r p) =
      if g = .n then r.1.getLsbD 7 else if g = .z then r.1 == 0 else if g = .c then r.2 else getFlag g p := by
  simp only [shiftFlags, getFlag_setFlag, getFlag_setZN]

end Sys2Proof.Machine
end

