-- ==== Sys2Proof/Laws/Ops.lean ====
section
/-! SUPPORT. What the shared operations of an instruction can do: the stack, the interrupt entry and return, the resolvers,
operand access, the dispatch around an operation; and that every instruction is its mnemonic's operation inside it. -/

namespace Sys2Proof.Machine

variable (s : State)

/-! ### The stack -/

theorem stackAddr_toNat (sp : Byte) : (stackAddr sp).toNat = 0x100 + sp.toNat := by
  simp [stackAddr, wordOf_toNat]

theorem stackAddr_low (sp : Byte) : (stackAddr sp).toNat ≤ 0x1FFF := by
  have := sp.isLt
  rw [stackAddr_toNat]
  omega

theorem stackAddr_mod (sp : Byte) : (stackAddr sp).toNat % 0x800 = 0x100 + sp.toNat := by
  have := sp.isLt
  rw [stackAddr_toNat]
  omega

/-- A push writes RAM at `0x0100 | S` and moves S down. -/
theorem push_eq (d : Byte) : push d s = (s.setRamByte (stackAddr s.cpu.sp) d).setSp (s.cpu.sp - 1) := by
  simp only [push, memWrite_low _ _ _ (stackAddr_low _)]

/-- A pop moves S up and reads RAM there. -/
theorem pop_eq : pop s = (s.ramByte (stackAddr (s.cpu.sp + 1)), s.setSp (s.cpu.sp + 1)) := by
  simp only [pop, setSp_sp, memRead_low _ _ (stackAddr_low _), ramByte_setSp]

theorem pushWord_eq (w : Word) :
    pushWord w s =
      ((s.setRamByte (stackAddr s.cpu.sp) (hiByte w)).setRamByte (stackAddr (s.cpu.sp - 1)) (loByte w)).setSp
        (s.cpu.sp - 1 - 1) := by
  simp only [pushWord, push_eq, setSp_sp]
  rfl

theorem popWord_eq :
    popWord s =
      (wordOf (s.ramByte (stackAddr (s.cpu.sp + 1))) (s.ramByte (stackAddr (s.cpu.sp + 1 + 1))),
        s.setSp (s.cpu.sp + 1 + 1)) := by
  simp only [popWord, pop_eq, setSp_sp, ramByte_setSp]
  rfl

/-! ### The interrupt entry and return -/

theorem vectorWord_setRamByte (a b : Word) (d : Byte) : (s.setRamByte b d).vectorWord a = s.vectorWord a := rfl

/-- The shared entry: three bytes pushed, S three lower, P written, PC the word at the vector. -/
theorem takeInterrupt_eq (pushed entry : Byte) {vector : Word} (h : 0x8000 ≤ vector.toNat)
    (h' : 0x8000 ≤ (vector + 1).toNat) :
    takeInterrupt pushed entry vector s =
      (((((s.setRamByte (stackAddr s.cpu.sp) (hiByte s.cpu.pc)).setRamByte (stackAddr (s.cpu.sp - 1))
        (loByte s.cpu.pc)).setRamByte (stackAddr (s.cpu.sp - 1 - 1)) pushed).setSp (s.cpu.sp - 1 - 1 - 1)).setP
          entry).setPc (s.vectorWord vector) := by
  simp only [takeInterrupt, pushWord_eq, push_eq, setSp_sp, memRead16_high _ h h']
  rfl

theorem cpuNmi_eq :
    cpuNmi s =
      ((((((s.setRamByte (stackAddr s.cpu.sp) (hiByte s.cpu.pc)).setRamByte (stackAddr (s.cpu.sp - 1))
        (loByte s.cpu.pc)).setRamByte (stackAddr (s.cpu.sp - 1 - 1)) (nmiStatus s.cpu.p)).setSp
          (s.cpu.sp - 1 - 1 - 1)).setP (nmiStatus s.cpu.p)).setPc (s.vectorWord nmiVector)).setCycles 8 := by
  rw [cpuNmi, takeInterrupt_eq _ _ _ (by decide) (by decide)]

theorem takeBreak_eq :
    takeBreak s =
      (((((s.setRamByte (stackAddr s.cpu.sp) (hiByte (s.cpu.pc + 1))).setRamByte (stackAddr (s.cpu.sp - 1))
        (loByte (s.cpu.pc + 1))).setRamByte (stackAddr (s.cpu.sp - 1 - 1)) (brkPushed s.cpu.p)).setSp
          (s.cpu.sp - 1 - 1 - 1)).setP (brkStatus s.cpu.p)).setPc (s.vectorWord brkVector) := by
  simp only [takeBreak]
  rw [takeInterrupt_eq _ _ _ (by decide) (by decide)]
  rfl

theorem returnFromInterrupt_eq :
    returnFromInterrupt s =
      ((s.setSp (s.cpu.sp + 1 + 1 + 1)).setP
        (setFlag .u false (setFlag .b false (s.ramByte (stackAddr (s.cpu.sp + 1)))))).setPc
          (wordOf (s.ramByte (stackAddr (s.cpu.sp + 1 + 1))) (s.ramByte (stackAddr (s.cpu.sp + 1 + 1 + 1)))) := by
  simp only [returnFromInterrupt, pop_eq, popWord_eq]
  rfl

/-! ### Resolvers -/

/-- A resolver writes `abs_addr`, `rel_addr` or `page_crossed` and no other register. -/
theorem resolve_cpu (m : Mode) :
    ∃ abs rel crossed, (resolve m s).cpu =
      { s.cpu with absAddr := abs, relAddr := rel, pageCrossed := crossed } := by
  refine ⟨(resolve m s).cpu.absAddr, (resolve m s).cpu.relAddr, (resolve m s).cpu.pageCrossed, ?_⟩
  cases m <;>
    simp [resolve, resolveIndirect, resolveIndexedIndirect, resolveIndirectIndexed, resolveIndexed, zeroPagePointer,
      State.setAbsAddr, State.setRelAddr, State.setPageCrossed]

@[simp] theorem resolve_a (m : Mode) : (resolve m s).cpu.a = s.cpu.a := by
  obtain ⟨_, _, _, h⟩ := resolve_cpu s m
  rw [h]

@[simp] theorem resolve_x (m : Mode) : (resolve m s).cpu.x = s.cpu.x := by
  obtain ⟨_, _, _, h⟩ := resolve_cpu s m
  rw [h]

@[simp] theorem resolve_y (m : Mode) : (resolve m s).cpu.y = s.cpu.y := by
  obtain ⟨_, _, _, h⟩ := resolve_cpu s m
  rw [h]

@[simp] theorem resolve_sp (m : Mode) : (resolve m s).cpu.sp = s.cpu.sp := by
  obtain ⟨_, _, _, h⟩ := resolve_cpu s m
  rw [h]

@[simp] theorem resolve_pc (m : Mode) : (resolve m s).cpu.pc = s.cpu.pc := by
  obtain ⟨_, _, _, h⟩ := resolve_cpu s m
  rw [h]

@[simp] theorem resolve_p (m : Mode) : (resolve m s).cpu.p = s.cpu.p := by
  obtain ⟨_, _, _, h⟩ := resolve_cpu s m
  rw [h]

@[simp] theorem resolve_opcode (m : Mode) : (resolve m s).cpu.opcode = s.cpu.opcode := by
  obtain ⟨_, _, _, h⟩ := resolve_cpu s m
  rw [h]

@[simp] theorem resolve_cycles (m : Mode) : (resolve m s).cpu.cycles = s.cpu.cycles := by
  obtain ⟨_, _, _, h⟩ := resolve_cpu s m
  rw [h]

@[simp] theorem resolve_penaltyEligible (m : Mode) : (resolve m s).cpu.penaltyEligible = s.cpu.penaltyEligible := by
  obtain ⟨_, _, _, h⟩ := resolve_cpu s m
  rw [h]

@[simp] theorem resolve_dma (m : Mode) : (resolve m s).dma = s.dma := by
  cases m <;> simp [resolve, resolveIndirect, resolveIndexedIndirect, resolveIndirectIndexed, resolveIndexed, zeroPagePointer]

@[simp] theorem resolve_ram (m : Mode) : (resolve m s).ram = s.ram := by
  cases m <;> simp [resolve, resolveIndirect, resolveIndexedIndirect, resolveIndirectIndexed, resolveIndexed, zeroPagePointer]

@[simp] theorem resolve_cart (m : Mode) : (resolve m s).cart = s.cart := by
  cases m <;> simp [resolve, resolveIndirect, resolveIndexedIndirect, resolveIndirectIndexed, resolveIndexed, zeroPagePointer]

@[simp] theorem resolve_ticks (m : Mode) : (resolve m s).ticks = s.ticks := by
  cases m <;> simp [resolve, resolveIndirect, resolveIndexedIndirect, resolveIndirectIndexed, resolveIndexed, zeroPagePointer]

@[simp] theorem resolve_ready (m : Mode) : (resolve m s).ready = s.ready := by
  cases m <;> simp [resolve, resolveIndirect, resolveIndexedIndirect, resolveIndirectIndexed, resolveIndexed, zeroPagePointer]

@[simp] theorem resolve_ramByte (m : Mode) (a : Word) : (resolve m s).ramByte a = s.ramByte a := by
  simp only [State.ramByte, resolve_ram]

/-! ### An instruction ready for its operation -/

@[simp] theorem prepare_a (i : Instr) : (prepare i s).cpu.a = s.cpu.a := by
  simp [prepare, beginInstr]

@[simp] theorem prepare_x (i : Instr) : (prepare i s).cpu.x = s.cpu.x := by
  simp [prepare, beginInstr]

@[simp] theorem prepare_y (i : Instr) : (prepare i s).cpu.y = s.cpu.y := by
  simp [prepare, beginInstr]

@[simp] theorem prepare_sp (i : Instr) : (prepare i s).cpu.sp = s.cpu.sp := by
  simp [prepare, beginInstr]

@[simp] theorem prepare_pc (i : Instr) : (prepare i s).cpu.pc = s.cpu.pc + BitVec.ofNat 16 i.mode.length := by
  simp [prepare, beginInstr]

@[simp] theorem prepare_p (i : Instr) : (prepare i s).cpu.p = setFlag .u true s.cpu.p := by
  simp [prepare, beginInstr]

@[simp] theorem prepare_opcode (i : Instr) : (prepare i s).cpu.opcode = i.row.opcode := by
  simp [prepare, beginInstr]

@[simp] theorem prepare_cycles (i : Instr) : (prepare i s).cpu.cycles = i.row.baseCycles := by
  simp [prepare, beginInstr]

@[simp] theorem prepare_penaltyEligible (i : Instr) : (prepare i s).cpu.penaltyEligible = false := by
  simp [prepare, beginInstr]

@[simp] theorem prepare_dma (i : Instr) : (prepare i s).dma = s.dma := by
  simp [prepare, beginInstr]

@[simp] theorem prepare_ram (i : Instr) : (prepare i s).ram = s.ram := by
  simp [prepare, beginInstr]

@[simp] theorem prepare_cart (i : Instr) : (prepare i s).cart = s.cart := by
  simp [prepare, beginInstr]

@[simp] theorem prepare_ticks (i : Instr) : (prepare i s).ticks = s.ticks := by
  simp [prepare, beginInstr]

@[simp] theorem prepare_ready (i : Instr) : (prepare i s).ready = s.ready := by
  simp [prepare, beginInstr]

@[simp] theorem prepare_ramByte (i : Instr) (a : Word) : (prepare i s).ramByte a = s.ramByte a := by
  simp only [State.ramByte, prepare_ram]

/-! ### Operands -/

@[simp] theorem operand_cpu (m : Mode) : (operand m s).2.cpu = s.cpu := by
  cases m <;> simp [operand]

@[simp] theorem operand_dma (m : Mode) : (operand m s).2.dma = s.dma := by
  cases m <;> simp [operand]

@[simp] theorem operand_ram (m : Mode) : (operand m s).2.ram = s.ram := by
  cases m <;> simp [operand]

@[simp] theorem operand_cart (m : Mode) : (operand m s).2.cart = s.cart := by
  cases m <;> simp [operand]

@[simp] theorem operand_ticks (m : Mode) : (operand m s).2.ticks = s.ticks := by
  cases m <;> simp [operand]

@[simp] theorem operand_ready (m : Mode) : (operand m s).2.ready = s.ready := by
  cases m <;> simp [operand]

@[simp] theorem operand_ramByte (m : Mode) (a : Word) : (operand m s).2.ramByte a = s.ramByte a := by
  simp only [State.ramByte, operand_ram]

/-- The operand in A is A, and costs no access. -/
@[simp] theorem operand_acc : operand .acc s = (s.cpu.a, s) := rfl

/-- The immediate operand is the instruction's own byte. -/
@[simp] theorem operand_imm (v : Byte) : operand (.imm v) s = (v, s) := rfl

theorem writeback_acc (r : Byte) : writeback .acc r s = s.setA r := rfl

theorem writeback_memory {m : Mode} (h : m ≠ .acc) (r : Byte) : writeback m r s = memWrite s.cpu.absAddr r s := by
  cases m <;> first | rfl | exact absurd rfl h

/-- A write-back writes A or memory, and no other register. -/
theorem writeback_cpu (m : Mode) (r : Byte) :
    (writeback m r s).cpu = if m = .acc then { s.cpu with a := r } else s.cpu := by
  split
  · next h => rw [h]; rfl
  · next h => rw [writeback_memory s h, memWrite_cpu]

/-! ### Branches -/

theorem branch_not_taken : branch false s = s := rfl

theorem branch_taken :
    branch true s =
      (s.setCycles (s.cpu.cycles + if crossesPage s.cpu.pc (s.cpu.pc + s.cpu.relAddr) then 2 else 1)).setPc
        (s.cpu.pc + s.cpu.relAddr) := rfl

/-! ### After the operation -/

@[simp] theorem finishInstr_a : (finishInstr s).cpu.a = s.cpu.a := by
  unfold finishInstr State.setFlag; split <;> rfl

@[simp] theorem finishInstr_x : (finishInstr s).cpu.x = s.cpu.x := by
  unfold finishInstr State.setFlag; split <;> rfl

@[simp] theorem finishInstr_y : (finishInstr s).cpu.y = s.cpu.y := by
  unfold finishInstr State.setFlag; split <;> rfl

@[simp] theorem finishInstr_sp : (finishInstr s).cpu.sp = s.cpu.sp := by
  unfold finishInstr State.setFlag; split <;> rfl

@[simp] theorem finishInstr_pc : (finishInstr s).cpu.pc = s.cpu.pc := by
  unfold finishInstr State.setFlag; split <;> rfl

@[simp] theorem finishInstr_opcode : (finishInstr s).cpu.opcode = s.cpu.opcode := by
  unfold finishInstr State.setFlag; split <;> rfl

@[simp] theorem finishInstr_absAddr : (finishInstr s).cpu.absAddr = s.cpu.absAddr := by
  unfold finishInstr State.setFlag; split <;> rfl

@[simp] theorem finishInstr_relAddr : (finishInstr s).cpu.relAddr = s.cpu.relAddr := by
  unfold finishInstr State.setFlag; split <;> rfl

@[simp] theorem finishInstr_pageCrossed : (finishInstr s).cpu.pageCrossed = s.cpu.pageCrossed := by
  unfold finishInstr State.setFlag; split <;> rfl

@[simp] theorem finishInstr_penaltyEligible : (finishInstr s).cpu.penaltyEligible = s.cpu.penaltyEligible := by
  unfold finishInstr State.setFlag; split <;> rfl

@[simp] theorem finishInstr_p : (finishInstr s).cpu.p = setFlag .u true s.cpu.p := by
  unfold finishInstr State.setFlag; split <;> rfl

@[simp] theorem finishInstr_cycles :
    (finishInstr s).cpu.cycles = s.cpu.cycles + if s.cpu.pageCrossed && s.cpu.penaltyEligible then 1 else 0 := by
  unfold finishInstr State.setFlag; split <;> simp

@[simp] theorem finishInstr_ppu : (finishInstr s).ppu = s.ppu := by
  unfold finishInstr State.setFlag; split <;> rfl

@[simp] theorem finishInstr_dma : (finishInstr s).dma = s.dma := by
  unfold finishInstr State.setFlag; split <;> rfl

@[simp] theorem finishInstr_ram : (finishInstr s).ram = s.ram := by
  unfold finishInstr State.setFlag; split <;> rfl

@[simp] theorem finishInstr_pads : (finishInstr s).pads = s.pads := by
  unfold finishInstr State.setFlag; split <;> rfl

@[simp] theorem finishInstr_cart : (finishInstr s).cart = s.cart := by
  unfold finishInstr State.setFlag; split <;> rfl

@[simp] theorem finishInstr_ticks : (finishInstr s).ticks = s.ticks := by
  unfold finishInstr State.setFlag; split <;> rfl

@[simp] theorem finishInstr_ready : (finishInstr s).ready = s.ready := by
  unfold finishInstr State.setFlag; split <;> rfl

@[simp] theorem finishInstr_ramByte (a : Word) : (finishInstr s).ramByte a = s.ramByte a := by
  simp only [State.ramByte, finishInstr_ram]

/-! ### Every instruction -/

/-- The operation of a mnemonic. -/
def Mnemonic.operation : Mnemonic → Mode → State → State
  | .lda => opLda
  | .ldx => opLdx
  | .ldy => opLdy
  | .sta => opSta
  | .stx => opStx
  | .sty => opSty
  | .tax => opTax
  | .tay => opTay
  | .tsx => opTsx
  | .txa => opTxa
  | .txs => opTxs
  | .tya => opTya
  | .adc => opAdc
  | .sbc => opSbc
  | .inc => opInc
  | .inx => opInx
  | .iny => opIny
  | .dec => opDec
  | .dex => opDex
  | .dey => opDey
  | .and => opAnd
  | .ora => opOra
  | .eor => opEor
  | .bit => opBit
  | .asl => opAsl
  | .lsr => opLsr
  | .rol => opRol
  | .ror => opRor
  | .bcc => opBcc
  | .bcs => opBcs
  | .beq => opBeq
  | .bmi => opBmi
  | .bne => opBne
  | .bpl => opBpl
  | .bvc => opBvc
  | .bvs => opBvs
  | .cmp => opCmp
  | .cpx => opCpx
  | .cpy => opCpy
  | .jmp => opJmp
  | .jsr => opJsr
  | .rts => opRts
  | .brk => opBrk
  | .rti => opRti
  | .pha => opPha
  | .php => opPhp
  | .pla => opPla
  | .plp => opPlp
  | .clc => opClc
  | .sec => opSec
  | .cld => opCld
  | .sed => opSed
  | .cli => opCli
  | .sei => opSei
  | .clv => opClv
  | .nop => opNop
  | .illegal => opIllegal

/-- Every instruction runs its mnemonic's operation inside the dispatch of R170. -/
theorem exec_eq (i : Instr) : exec i s = runInstr i (Mnemonic.operation i.mnemonic) s := by
  cases i <;> rfl

/-- No instruction stops. -/
theorem exec_next (i : Instr) :
    exec i s = .next (finishInstr (Mnemonic.operation i.mnemonic i.mode (prepare i s))) := exec_eq s i

end Sys2Proof.Machine
end

