-- ==== Sys2Proof/Laws/Frames.lean ====
section
/-! SUPPORT. What a read, a resolver, a write and a push keep, in the terms of Safety.lean. -/

namespace Sys2Proof.Machine

variable (s : State)

/-! ### Peeks -/

theorem peek_low {a : Word} (h : a.toNat ≤ 0x1FFF) : s.peek a = s.ramByte a := by
  simp [State.peek, cpuRead, cartCpuRead_low a (show a.toNat < 0x8000 by omega), h]

theorem peek_high {a : Word} (h : 0x8000 ≤ a.toNat) :
    s.peek a = match s.cart with | some c => c.prgByte a | none => 0 := by
  have hp : ¬ (a = 0x4016 ∨ a = 0x4017) := by rintro (rfl | rfl) <;> simp at h
  unfold State.peek cpuRead cartCpuRead
  cases s.cart with
  | some c => simp only [ge_iff_le, h, if_true]
  | none =>
    simp only [show ¬ a.toNat ≤ 0x1FFF by omega, show ¬ a.toNat ≤ 0x3FFF by omega, hp, if_false]

/-- Plain memory is a function of RAM and the cartridge. -/
theorem peek_memory {s t : State} (hr : t.ram = s.ram) (hc : t.cart = s.cart) {a : Word} (h : isMemory a = true) :
    t.peek a = s.peek a := by
  simp only [isMemory, Bool.or_eq_true, decide_eq_true_eq] at h
  rcases h with h | h
  · rw [peek_low t (by omega), peek_low s (by omega), State.ramByte, State.ramByte, hr]
  · rw [peek_high t h, peek_high s h, hc]

/-- Reading plain memory is a peek with no side effect. -/
theorem memRead_memory {a : Word} (h : isMemory a = true) : memRead a s = (s.peek a, s) := by
  simp only [isMemory, Bool.or_eq_true, decide_eq_true_eq] at h
  rcases h with h | h
  · rw [memRead_low a s (by omega), peek_low s (by omega)]
  · rw [memRead_high a s h, peek_high s h]
    all_goals cases s.cart <;> rfl

/-! ### Frames as relations -/

theorem OutsideCpuSame.refl : OutsideCpuSame s s := ⟨rfl, rfl, rfl, rfl, rfl, rfl, rfl⟩

theorem MemoriesSame.refl : MemoriesSame s s :=
  ⟨fun _ _ => rfl, fun _ => rfl, fun _ => rfl, rfl, fun _ _ => rfl⟩

theorem MemoriesSame.trans {s t u : State} (h : MemoriesSame s t) (g : MemoriesSame t u) : MemoriesSame s u where
  cpu := fun a ha => (g.cpu a ha).trans (h.cpu a ha)
  oam := fun a => (g.oam a).trans (h.oam a)
  ppu := fun a => (g.ppu a).trans (h.ppu a)
  patterns := g.patterns.trans h.patterns
  pixels := fun r c => (g.pixels r c).trans (h.pixels r c)

/-- The PPU's memories, and no other of its fields, decide what its part of the frame says. -/
structure PpuMemoriesSame (p q : Ppu) : Prop where
  oam : q.oam = p.oam
  nt  : q.nt = p.nt
  pal : q.pal = p.pal
  pt  : q.pt = p.pt
  fb  : q.fb = p.fb

theorem MemoriesSame.of {s t : State} (hr : t.ram = s.ram) (hc : t.cart = s.cart) (hp : PpuMemoriesSame s.ppu t.ppu) :
    MemoriesSame s t where
  cpu := fun _ ha => peek_memory hr hc ha
  oam := fun _ => by simp only [Ppu.oamByte, hp.oam]
  ppu := fun _ => by simp only [ppuRead, hc, hp.nt, hp.pal, hp.pt]
  patterns := hp.pt
  pixels := fun _ _ => by simp only [State.pixel, hp.fb]

theorem OutsideCpuSame.memories {s t : State} (h : OutsideCpuSame s t) : MemoriesSame s t :=
  .of h.ram h.cart (by rw [h.ppu]; exact ⟨rfl, rfl, rfl, rfl, rfl⟩)

/-! ### Reads -/

theorem ppuRegReadEffect_memories (cart : Option Cartridge) (r : BitVec 3) (p : Ppu) :
    PpuMemoriesSame p (ppuRegReadEffect cart r p) := by
  unfold ppuRegReadEffect
  split <;> exact ⟨rfl, rfl, rfl, rfl, rfl⟩

theorem memRead_ppuMemories (a : Word) : PpuMemoriesSame s.ppu (memRead a s).2.ppu := by
  unfold memRead cpuRead
  split
  · exact ⟨rfl, rfl, rfl, rfl, rfl⟩
  · split
    · exact ⟨rfl, rfl, rfl, rfl, rfl⟩
    · split
      · exact ppuRegReadEffect_memories _ _ _
      · split <;> exact ⟨rfl, rfl, rfl, rfl, rfl⟩

/-- No read changes a memory. -/
theorem memRead_memories (a : Word) : MemoriesSame s (memRead a s).2 :=
  .of (memRead_ram a s) (memRead_cart a s) (memRead_ppuMemories s a)

theorem memRead16_memories (a b : Word) : MemoriesSame s (memRead16 a b s).2 :=
  .trans (memRead_memories s a) (memRead_memories _ b)

theorem setCpu_memories (c : Cpu) : MemoriesSame s { s with cpu := c } :=
  .of rfl rfl ⟨rfl, rfl, rfl, rfl, rfl⟩

/-- No resolver changes a memory. -/
theorem resolve_memories (m : Mode) : MemoriesSame s (resolve m s) := by
  cases m with
  | imp => exact .refl s
  | acc => exact .refl s
  | ind ptr => exact .trans (memRead16_memories s _ _) (setCpu_memories _ _)
  | izx zp => exact .trans (memRead16_memories s _ _) (setCpu_memories _ _)
  | izy zp =>
    exact .trans (memRead16_memories s _ _)
      (setCpu_memories _ _)
  | _ => exact setCpu_memories s _

theorem prepare_memories (i : Instr) : MemoriesSame s (prepare i s) :=
  .trans (setCpu_memories s _) (resolve_memories _ i.mode)

/-- No operand read changes a memory. -/
theorem operand_memories (m : Mode) : MemoriesSame s (operand m s).2 := by
  cases m <;> first | exact .refl s | exact memRead_memories s _

theorem operand_prepare_memories (i : Instr) : MemoriesSame s (operand i.mode (prepare i s)).2 :=
  .trans (prepare_memories s i) (operand_memories _ _)

/-- A resolver that reads no pointer touches nothing outside the CPU. -/
theorem resolve_outside {m : Mode} (h : ∀ ptr, m ≠ .ind ptr) : OutsideCpuSame s (resolve m s) := by
  cases m with
  | ind ptr => exact absurd rfl (h ptr)
  | izx zp =>
    have e : zeroPagePointer (zp + s.cpu.x) s = (_, s) :=
      memRead16_low (zext16 (zp + s.cpu.x)) s (by simp [zext16]; omega) (by simp [zext16]; omega)
    simp only [resolve, resolveIndexedIndirect, e]
    exact ⟨rfl, rfl, rfl, rfl, rfl, rfl, rfl⟩
  | izy zp =>
    have e : zeroPagePointer zp s = (_, s) :=
      memRead16_low (zext16 zp) s (by simp [zext16]; omega) (by simp [zext16]; omega)
    simp only [resolve, resolveIndirectIndexed, e]
    exact ⟨rfl, rfl, rfl, rfl, rfl, rfl, rfl⟩
  | _ => exact ⟨rfl, rfl, rfl, rfl, rfl, rfl, rfl⟩

theorem prepare_outside {i : Instr} (h : ∀ ptr, i.mode ≠ .ind ptr) : OutsideCpuSame s (prepare i s) := by
  have g := resolve_outside (beginInstr i s) h
  exact ⟨g.ppu, g.dma, g.ram, g.pads, g.cart, g.ticks, g.ready⟩

theorem finishInstr_outside : OutsideCpuSame s (finishInstr s) :=
  ⟨by simp, by simp, by simp, by simp, by simp, by simp, by simp⟩

/-! ### Writes -/

/-- A write of one byte is the store the frame describes. -/
theorem memWrite_stored (a : Word) (d : Byte) : StoredByte a d s (memWrite a d s) := by
  have key : ∀ {b : Word}, b = 0x4014 ∨ b = 0x4016 ∨ b = 0x4017 → 0x3FFF < b.toNat := by
    rintro b (rfl | rfl | rfl) <;> decide
  by_cases h1 : a.toNat ≤ 0x1FFF
  · have n4 : a ≠ 0x4014 := fun e => by have := key (.inl e); omega
    have n6 : ¬ (a = 0x4016 ∨ a = 0x4017) := fun e => by have := key (.inr e); omega
    rw [memWrite_low a d s h1]
    refine ⟨fun hw _ => ?_, fun b hb => ramByte_setRamByte_other a d s (by omega), ?_, ?_, ?_, rfl, rfl, rfl⟩
    · rw [ramByte_setRamByte a d s hw, if_pos rfl]
    · rw [if_neg (by omega)]; rfl
    · rw [if_neg n4]; rfl
    · rw [if_neg n6]; rfl
  · have far : ∀ t : State, t.ram = s.ram → ∀ b, t.ramByte b = s.ramByte b := fun t e b => by
      rw [State.ramByte, State.ramByte, e]
    by_cases h2 : a.toNat ≤ 0x3FFF
    · have n4 : a ≠ 0x4014 := fun e => by have := key (.inl e); omega
      have n6 : ¬ (a = 0x4016 ∨ a = 0x4017) := fun e => by have := key (.inr e); omega
      rw [memWrite_ppu a d s (by omega) h2]
      exact ⟨fun _ h => absurd h h1, fun b _ => far _ rfl b, (if_pos ⟨by omega, h2⟩).symm, (if_neg n4).symm,
        (if_neg n6).symm, rfl, rfl, rfl⟩
    · have np : ¬ (0x2000 ≤ a.toNat ∧ a.toNat ≤ 0x3FFF) := fun h => h2 h.2
      unfold memWrite
      rw [if_neg h1, if_neg h2]
      by_cases h4 : a = 0x4014
      · have n6 : ¬ (a = 0x4016 ∨ a = 0x4017) := by rw [h4]; decide
        rw [if_pos h4]
        exact ⟨fun _ h => absurd h h1, fun b _ => far _ rfl b, (if_neg np).symm, (if_pos h4).symm,
          (if_neg n6).symm, rfl, rfl, rfl⟩
      · rw [if_neg h4]
        by_cases h6 : a = 0x4016 ∨ a = 0x4017
        · rw [if_pos h6]
          exact ⟨fun _ h => absurd h h1, fun b _ => far _ rfl b, (if_neg np).symm, (if_neg h4).symm,
            (if_pos h6).symm, rfl, rfl, rfl⟩
        · rw [if_neg h6]
          exact ⟨fun _ h => absurd h h1, fun b _ => rfl, (if_neg np).symm, (if_neg h4).symm, (if_neg h6).symm,
            rfl, rfl, rfl⟩

end Sys2Proof.Machine
end

