-- ==== Sys2Proof/Laws/PerInstr.lean ====
section
/-! SUPPORT. Per-instruction family RowLength: the bytes an instruction is encoded in are as many as the decoder takes for
its opcode byte (R140, R143). -/

namespace Sys2Proof.Laws.RowLength

open Sys2Proof

/-- The encoding of a well-formed instruction has the length its opcode byte alone gives (R143). -/
def Statement (i : Instr) : Prop := i.wf = true → (encode i).length = opcodeLength i.row.opcode

theorem ldaImm (value : Byte) : Statement (.ldaImm value) := fun _ => (by decide : 2 = opcodeLength 0xA9)
theorem ldaZp0 (zp : Byte) : Statement (.ldaZp0 zp) := fun _ => (by decide : 2 = opcodeLength 0xA5)
theorem ldaZpx (zp : Byte) : Statement (.ldaZpx zp) := fun _ => (by decide : 2 = opcodeLength 0xB5)
theorem ldaAbs (addr : Word) : Statement (.ldaAbs addr) := fun _ => (by decide : 3 = opcodeLength 0xAD)
theorem ldaAbx (base : Word) : Statement (.ldaAbx base) := fun _ => (by decide : 3 = opcodeLength 0xBD)
theorem ldaAby (base : Word) : Statement (.ldaAby base) := fun _ => (by decide : 3 = opcodeLength 0xB9)
theorem ldaIzx (zp : Byte) : Statement (.ldaIzx zp) := fun _ => (by decide : 2 = opcodeLength 0xA1)
theorem ldaIzy (zp : Byte) : Statement (.ldaIzy zp) := fun _ => (by decide : 2 = opcodeLength 0xB1)
theorem ldxImm (value : Byte) : Statement (.ldxImm value) := fun _ => (by decide : 2 = opcodeLength 0xA2)
theorem ldxZp0 (zp : Byte) : Statement (.ldxZp0 zp) := fun _ => (by decide : 2 = opcodeLength 0xA6)
theorem ldxZpy (zp : Byte) : Statement (.ldxZpy zp) := fun _ => (by decide : 2 = opcodeLength 0xB6)
theorem ldxAbs (addr : Word) : Statement (.ldxAbs addr) := fun _ => (by decide : 3 = opcodeLength 0xAE)
theorem ldxAby (base : Word) : Statement (.ldxAby base) := fun _ => (by decide : 3 = opcodeLength 0xBE)
theorem ldyImm (value : Byte) : Statement (.ldyImm value) := fun _ => (by decide : 2 = opcodeLength 0xA0)
theorem ldyZp0 (zp : Byte) : Statement (.ldyZp0 zp) := fun _ => (by decide : 2 = opcodeLength 0xA4)
theorem ldyZpx (zp : Byte) : Statement (.ldyZpx zp) := fun _ => (by decide : 2 = opcodeLength 0xB4)
theorem ldyAbs (addr : Word) : Statement (.ldyAbs addr) := fun _ => (by decide : 3 = opcodeLength 0xAC)
theorem ldyAbx (base : Word) : Statement (.ldyAbx base) := fun _ => (by decide : 3 = opcodeLength 0xBC)
theorem staZp0 (zp : Byte) : Statement (.staZp0 zp) := fun _ => (by decide : 2 = opcodeLength 0x85)
theorem staZpx (zp : Byte) : Statement (.staZpx zp) := fun _ => (by decide : 2 = opcodeLength 0x95)
theorem staAbs (addr : Word) : Statement (.staAbs addr) := fun _ => (by decide : 3 = opcodeLength 0x8D)
theorem staAbx (base : Word) : Statement (.staAbx base) := fun _ => (by decide : 3 = opcodeLength 0x9D)
theorem staAby (base : Word) : Statement (.staAby base) := fun _ => (by decide : 3 = opcodeLength 0x99)
theorem staIzx (zp : Byte) : Statement (.staIzx zp) := fun _ => (by decide : 2 = opcodeLength 0x81)
theorem staIzy (zp : Byte) : Statement (.staIzy zp) := fun _ => (by decide : 2 = opcodeLength 0x91)
theorem stxZp0 (zp : Byte) : Statement (.stxZp0 zp) := fun _ => (by decide : 2 = opcodeLength 0x86)
theorem stxZpy (zp : Byte) : Statement (.stxZpy zp) := fun _ => (by decide : 2 = opcodeLength 0x96)
theorem stxAbs (addr : Word) : Statement (.stxAbs addr) := fun _ => (by decide : 3 = opcodeLength 0x8E)
theorem styZp0 (zp : Byte) : Statement (.styZp0 zp) := fun _ => (by decide : 2 = opcodeLength 0x84)
theorem styZpx (zp : Byte) : Statement (.styZpx zp) := fun _ => (by decide : 2 = opcodeLength 0x94)
theorem styAbs (addr : Word) : Statement (.styAbs addr) := fun _ => (by decide : 3 = opcodeLength 0x8C)
theorem tax : Statement .tax := fun _ => (by decide : 1 = opcodeLength 0xAA)
theorem tay : Statement .tay := fun _ => (by decide : 1 = opcodeLength 0xA8)
theorem tsx : Statement .tsx := fun _ => (by decide : 1 = opcodeLength 0xBA)
theorem txa : Statement .txa := fun _ => (by decide : 1 = opcodeLength 0x8A)
theorem txs : Statement .txs := fun _ => (by decide : 1 = opcodeLength 0x9A)
theorem tya : Statement .tya := fun _ => (by decide : 1 = opcodeLength 0x98)
theorem adcImm (value : Byte) : Statement (.adcImm value) := fun _ => (by decide : 2 = opcodeLength 0x69)
theorem adcZp0 (zp : Byte) : Statement (.adcZp0 zp) := fun _ => (by decide : 2 = opcodeLength 0x65)
theorem adcZpx (zp : Byte) : Statement (.adcZpx zp) := fun _ => (by decide : 2 = opcodeLength 0x75)
theorem adcAbs (addr : Word) : Statement (.adcAbs addr) := fun _ => (by decide : 3 = opcodeLength 0x6D)
theorem adcAbx (base : Word) : Statement (.adcAbx base) := fun _ => (by decide : 3 = opcodeLength 0x7D)
theorem adcAby (base : Word) : Statement (.adcAby base) := fun _ => (by decide : 3 = opcodeLength 0x79)
theorem adcIzx (zp : Byte) : Statement (.adcIzx zp) := fun _ => (by decide : 2 = opcodeLength 0x61)
theorem adcIzy (zp : Byte) : Statement (.adcIzy zp) := fun _ => (by decide : 2 = opcodeLength 0x71)
theorem sbcImm (value : Byte) : Statement (.sbcImm value) := fun _ => (by decide : 2 = opcodeLength 0xE9)
theorem sbcZp0 (zp : Byte) : Statement (.sbcZp0 zp) := fun _ => (by decide : 2 = opcodeLength 0xE5)
theorem sbcZpx (zp : Byte) : Statement (.sbcZpx zp) := fun _ => (by decide : 2 = opcodeLength 0xF5)
theorem sbcAbs (addr : Word) : Statement (.sbcAbs addr) := fun _ => (by decide : 3 = opcodeLength 0xED)
theorem sbcAbx (base : Word) : Statement (.sbcAbx base) := fun _ => (by decide : 3 = opcodeLength 0xFD)
theorem sbcAby (base : Word) : Statement (.sbcAby base) := fun _ => (by decide : 3 = opcodeLength 0xF9)
theorem sbcIzx (zp : Byte) : Statement (.sbcIzx zp) := fun _ => (by decide : 2 = opcodeLength 0xE1)
theorem sbcIzy (zp : Byte) : Statement (.sbcIzy zp) := fun _ => (by decide : 2 = opcodeLength 0xF1)
theorem incZp0 (zp : Byte) : Statement (.incZp0 zp) := fun _ => (by decide : 2 = opcodeLength 0xE6)
theorem incZpx (zp : Byte) : Statement (.incZpx zp) := fun _ => (by decide : 2 = opcodeLength 0xF6)
theorem incAbs (addr : Word) : Statement (.incAbs addr) := fun _ => (by decide : 3 = opcodeLength 0xEE)
theorem incAbx (base : Word) : Statement (.incAbx base) := fun _ => (by decide : 3 = opcodeLength 0xFE)
theorem inx : Statement .inx := fun _ => (by decide : 1 = opcodeLength 0xE8)
theorem iny : Statement .iny := fun _ => (by decide : 1 = opcodeLength 0xC8)
theorem decZp0 (zp : Byte) : Statement (.decZp0 zp) := fun _ => (by decide : 2 = opcodeLength 0xC6)
theorem decZpx (zp : Byte) : Statement (.decZpx zp) := fun _ => (by decide : 2 = opcodeLength 0xD6)
theorem decAbs (addr : Word) : Statement (.decAbs addr) := fun _ => (by decide : 3 = opcodeLength 0xCE)
theorem decAbx (base : Word) : Statement (.decAbx base) := fun _ => (by decide : 3 = opcodeLength 0xDE)
theorem dex : Statement .dex := fun _ => (by decide : 1 = opcodeLength 0xCA)
theorem dey : Statement .dey := fun _ => (by decide : 1 = opcodeLength 0x88)
theorem andImm (value : Byte) : Statement (.andImm value) := fun _ => (by decide : 2 = opcodeLength 0x29)
theorem andZp0 (zp : Byte) : Statement (.andZp0 zp) := fun _ => (by decide : 2 = opcodeLength 0x25)
theorem andZpx (zp : Byte) : Statement (.andZpx zp) := fun _ => (by decide : 2 = opcodeLength 0x35)
theorem andAbs (addr : Word) : Statement (.andAbs addr) := fun _ => (by decide : 3 = opcodeLength 0x2D)
theorem andAbx (base : Word) : Statement (.andAbx base) := fun _ => (by decide : 3 = opcodeLength 0x3D)
theorem andAby (base : Word) : Statement (.andAby base) := fun _ => (by decide : 3 = opcodeLength 0x39)
theorem andIzx (zp : Byte) : Statement (.andIzx zp) := fun _ => (by decide : 2 = opcodeLength 0x21)
theorem andIzy (zp : Byte) : Statement (.andIzy zp) := fun _ => (by decide : 2 = opcodeLength 0x31)
theorem oraImm (value : Byte) : Statement (.oraImm value) := fun _ => (by decide : 2 = opcodeLength 0x09)
theorem oraZp0 (zp : Byte) : Statement (.oraZp0 zp) := fun _ => (by decide : 2 = opcodeLength 0x05)
theorem oraZpx (zp : Byte) : Statement (.oraZpx zp) := fun _ => (by decide : 2 = opcodeLength 0x15)
theorem oraAbs (addr : Word) : Statement (.oraAbs addr) := fun _ => (by decide : 3 = opcodeLength 0x0D)
theorem oraAbx (base : Word) : Statement (.oraAbx base) := fun _ => (by decide : 3 = opcodeLength 0x1D)
theorem oraAby (base : Word) : Statement (.oraAby base) := fun _ => (by decide : 3 = opcodeLength 0x19)
theorem oraIzx (zp : Byte) : Statement (.oraIzx zp) := fun _ => (by decide : 2 = opcodeLength 0x01)
theorem oraIzy (zp : Byte) : Statement (.oraIzy zp) := fun _ => (by decide : 2 = opcodeLength 0x11)
theorem eorImm (value : Byte) : Statement (.eorImm value) := fun _ => (by decide : 2 = opcodeLength 0x49)
theorem eorZp0 (zp : Byte) : Statement (.eorZp0 zp) := fun _ => (by decide : 2 = opcodeLength 0x45)
theorem eorZpx (zp : Byte) : Statement (.eorZpx zp) := fun _ => (by decide : 2 = opcodeLength 0x55)
theorem eorAbs (addr : Word) : Statement (.eorAbs addr) := fun _ => (by decide : 3 = opcodeLength 0x4D)
theorem eorAbx (base : Word) : Statement (.eorAbx base) := fun _ => (by decide : 3 = opcodeLength 0x5D)
theorem eorAby (base : Word) : Statement (.eorAby base) := fun _ => (by decide : 3 = opcodeLength 0x59)
theorem eorIzx (zp : Byte) : Statement (.eorIzx zp) := fun _ => (by decide : 2 = opcodeLength 0x41)
theorem eorIzy (zp : Byte) : Statement (.eorIzy zp) := fun _ => (by decide : 2 = opcodeLength 0x51)
theorem bitZp0 (zp : Byte) : Statement (.bitZp0 zp) := fun _ => (by decide : 2 = opcodeLength 0x24)
theorem bitAbs (addr : Word) : Statement (.bitAbs addr) := fun _ => (by decide : 3 = opcodeLength 0x2C)
theorem aslAcc : Statement .aslAcc := fun _ => (by decide : 1 = opcodeLength 0x0A)
theorem aslZp0 (zp : Byte) : Statement (.aslZp0 zp) := fun _ => (by decide : 2 = opcodeLength 0x06)
theorem aslZpx (zp : Byte) : Statement (.aslZpx zp) := fun _ => (by decide : 2 = opcodeLength 0x16)
theorem aslAbs (addr : Word) : Statement (.aslAbs addr) := fun _ => (by decide : 3 = opcodeLength 0x0E)
theorem aslAbx (base : Word) : Statement (.aslAbx base) := fun _ => (by decide : 3 = opcodeLength 0x1E)
theorem lsrAcc : Statement .lsrAcc := fun _ => (by decide : 1 = opcodeLength 0x4A)
theorem lsrZp0 (zp : Byte) : Statement (.lsrZp0 zp) := fun _ => (by decide : 2 = opcodeLength 0x46)
theorem lsrZpx (zp : Byte) : Statement (.lsrZpx zp) := fun _ => (by decide : 2 = opcodeLength 0x56)
theorem lsrAbs (addr : Word) : Statement (.lsrAbs addr) := fun _ => (by decide : 3 = opcodeLength 0x4E)
theorem lsrAbx (base : Word) : Statement (.lsrAbx base) := fun _ => (by decide : 3 = opcodeLength 0x5E)
theorem rolAcc : Statement .rolAcc := fun _ => (by decide : 1 = opcodeLength 0x2A)
theorem rolZp0 (zp : Byte) : Statement (.rolZp0 zp) := fun _ => (by decide : 2 = opcodeLength 0x26)
theorem rolZpx (zp : Byte) : Statement (.rolZpx zp) := fun _ => (by decide : 2 = opcodeLength 0x36)
theorem rolAbs (addr : Word) : Statement (.rolAbs addr) := fun _ => (by decide : 3 = opcodeLength 0x2E)
theorem rolAbx (base : Word) : Statement (.rolAbx base) := fun _ => (by decide : 3 = opcodeLength 0x3E)
theorem rorAcc : Statement .rorAcc := fun _ => (by decide : 1 = opcodeLength 0x6A)
theorem rorZp0 (zp : Byte) : Statement (.rorZp0 zp) := fun _ => (by decide : 2 = opcodeLength 0x66)
theorem rorZpx (zp : Byte) : Statement (.rorZpx zp) := fun _ => (by decide : 2 = opcodeLength 0x76)
theorem rorAbs (addr : Word) : Statement (.rorAbs addr) := fun _ => (by decide : 3 = opcodeLength 0x6E)
theorem rorAbx (base : Word) : Statement (.rorAbx base) := fun _ => (by decide : 3 = opcodeLength 0x7E)
theorem bcc (offset : Byte) : Statement (.bcc offset) := fun _ => (by decide : 2 = opcodeLength 0x90)
theorem bcs (offset : Byte) : Statement (.bcs offset) := fun _ => (by decide : 2 = opcodeLength 0xB0)
theorem beq (offset : Byte) : Statement (.beq offset) := fun _ => (by decide : 2 = opcodeLength 0xF0)
theorem bmi (offset : Byte) : Statement (.bmi offset) := fun _ => (by decide : 2 = opcodeLength 0x30)
theorem bne (offset : Byte) : Statement (.bne offset) := fun _ => (by decide : 2 = opcodeLength 0xD0)
theorem bpl (offset : Byte) : Statement (.bpl offset) := fun _ => (by decide : 2 = opcodeLength 0x10)
theorem bvc (offset : Byte) : Statement (.bvc offset) := fun _ => (by decide : 2 = opcodeLength 0x50)
theorem bvs (offset : Byte) : Statement (.bvs offset) := fun _ => (by decide : 2 = opcodeLength 0x70)
theorem cmpImm (value : Byte) : Statement (.cmpImm value) := fun _ => (by decide : 2 = opcodeLength 0xC9)
theorem cmpZp0 (zp : Byte) : Statement (.cmpZp0 zp) := fun _ => (by decide : 2 = opcodeLength 0xC5)
theorem cmpZpx (zp : Byte) : Statement (.cmpZpx zp) := fun _ => (by decide : 2 = opcodeLength 0xD5)
theorem cmpAbs (addr : Word) : Statement (.cmpAbs addr) := fun _ => (by decide : 3 = opcodeLength 0xCD)
theorem cmpAbx (base : Word) : Statement (.cmpAbx base) := fun _ => (by decide : 3 = opcodeLength 0xDD)
theorem cmpAby (base : Word) : Statement (.cmpAby base) := fun _ => (by decide : 3 = opcodeLength 0xD9)
theorem cmpIzx (zp : Byte) : Statement (.cmpIzx zp) := fun _ => (by decide : 2 = opcodeLength 0xC1)
theorem cmpIzy (zp : Byte) : Statement (.cmpIzy zp) := fun _ => (by decide : 2 = opcodeLength 0xD1)
theorem cpxImm (value : Byte) : Statement (.cpxImm value) := fun _ => (by decide : 2 = opcodeLength 0xE0)
theorem cpxZp0 (zp : Byte) : Statement (.cpxZp0 zp) := fun _ => (by decide : 2 = opcodeLength 0xE4)
theorem cpxAbs (addr : Word) : Statement (.cpxAbs addr) := fun _ => (by decide : 3 = opcodeLength 0xEC)
theorem cpyImm (value : Byte) : Statement (.cpyImm value) := fun _ => (by decide : 2 = opcodeLength 0xC0)
theorem cpyZp0 (zp : Byte) : Statement (.cpyZp0 zp) := fun _ => (by decide : 2 = opcodeLength 0xC4)
theorem cpyAbs (addr : Word) : Statement (.cpyAbs addr) := fun _ => (by decide : 3 = opcodeLength 0xCC)
theorem jmpAbs (addr : Word) : Statement (.jmpAbs addr) := fun _ => (by decide : 3 = opcodeLength 0x4C)
theorem jmpInd (ptr : Word) : Statement (.jmpInd ptr) := fun _ => (by decide : 3 = opcodeLength 0x6C)
theorem jsr (addr : Word) : Statement (.jsr addr) := fun _ => (by decide : 3 = opcodeLength 0x20)
theorem rts : Statement .rts := fun _ => (by decide : 1 = opcodeLength 0x60)
theorem brk : Statement .brk := fun _ => (by decide : 1 = opcodeLength 0x00)
theorem rti : Statement .rti := fun _ => (by decide : 1 = opcodeLength 0x40)
theorem pha : Statement .pha := fun _ => (by decide : 1 = opcodeLength 0x48)
theorem php : Statement .php := fun _ => (by decide : 1 = opcodeLength 0x08)
theorem pla : Statement .pla := fun _ => (by decide : 1 = opcodeLength 0x68)
theorem plp : Statement .plp := fun _ => (by decide : 1 = opcodeLength 0x28)
theorem clc : Statement .clc := fun _ => (by decide : 1 = opcodeLength 0x18)
theorem sec : Statement .sec := fun _ => (by decide : 1 = opcodeLength 0x38)
theorem cld : Statement .cld := fun _ => (by decide : 1 = opcodeLength 0xD8)
theorem sed : Statement .sed := fun _ => (by decide : 1 = opcodeLength 0xF8)
theorem cli : Statement .cli := fun _ => (by decide : 1 = opcodeLength 0x58)
theorem sei : Statement .sei := fun _ => (by decide : 1 = opcodeLength 0x78)
theorem clv : Statement .clv := fun _ => (by decide : 1 = opcodeLength 0xB8)
theorem nop : Statement .nop := fun _ => (by decide : 1 = opcodeLength 0xEA)
/-- Each of the 105 bytes of R147 has length 1. -/
theorem illegal_length : ∀ b ∈ illegalOpcodes, opcodeLength b = 1 := by decide

theorem illegal (opcode : Byte) : Statement (.illegal opcode) := fun h =>
  (illegal_length opcode (by simpa [Instr.wf] using h)).symm

end Sys2Proof.Laws.RowLength
end

