-- ==== Sys2Proof/Laws/Ppu.lean ====
section
/-! SUPPORT. What a PPU clock can do: the tag actions leave the registers the CPU writes, the memories and the position
alone; the pixel writes the frame buffer and two latches; the advance moves the position. -/

namespace Sys2Proof.Machine

/-- What no tag action changes. -/
structure TagFrame (p q : Ppu) : Prop where
  ctrl          : q.ctrl = p.ctrl
  mask          : q.mask = p.mask
  oamAddr       : q.oamAddr = p.oamAddr
  t             : q.t = p.t
  fineX         : q.fineX = p.fineX
  w             : q.w = p.w
  dataBuffer    : q.dataBuffer = p.dataBuffer
  oam           : q.oam = p.oam
  nt            : q.nt = p.nt
  pal           : q.pal = p.pal
  pt            : q.pt = p.pt
  scanline      : q.scanline = p.scanline
  cycle         : q.cycle = p.cycle
  frameComplete : q.frameComplete = p.frameComplete
  fb            : q.fb = p.fb
  statusLow     : ∀ k < 5, q.status.getLsbD k = p.status.getLsbD k

theorem TagFrame.refl (p : Ppu) : TagFrame p p := by constructor <;> first | rfl | exact fun _ _ => rfl

theorem TagFrame.trans {p q r : Ppu} (h : TagFrame p q) (g : TagFrame q r) : TagFrame p r where
  ctrl := g.ctrl.trans h.ctrl
  mask := g.mask.trans h.mask
  oamAddr := g.oamAddr.trans h.oamAddr
  t := g.t.trans h.t
  fineX := g.fineX.trans h.fineX
  w := g.w.trans h.w
  dataBuffer := g.dataBuffer.trans h.dataBuffer
  oam := g.oam.trans h.oam
  nt := g.nt.trans h.nt
  pal := g.pal.trans h.pal
  pt := g.pt.trans h.pt
  scanline := g.scanline.trans h.scanline
  cycle := g.cycle.trans h.cycle
  frameComplete := g.frameComplete.trans h.frameComplete
  fb := g.fb.trans h.fb
  statusLow := fun k hk => (g.statusLow k hk).trans (h.statusLow k hk)

/-- A STATUS flag written at bit 5, 6 or 7 is inside the frame. -/
theorem tagFrame_setStatus (p : Ppu) {k : Nat} (hk : 5 ≤ k ∧ k < 8) (b : Bool) :
    TagFrame p { p with status := setBit k b p.status } := by
  constructor <;> try rfl
  intro j hj
  have h : j ≠ k := by omega
  show (setBit k b p.status).getLsbD j = p.status.getLsbD j
  simp [getLsbD_setBit k b p.status hk.2, h]

theorem tagFrame_setVerticalBlank (p : Ppu) (b : Bool) : TagFrame p (p.setVerticalBlank b) :=
  tagFrame_setStatus p (by decide) b

theorem tagFrame_setSpriteZeroHit (p : Ppu) (b : Bool) : TagFrame p (p.setSpriteZeroHit b) :=
  tagFrame_setStatus p (by decide) b

theorem tagFrame_setSpriteOverflow (p : Ppu) (b : Bool) : TagFrame p (p.setSpriteOverflow b) :=
  tagFrame_setStatus p (by decide) b

/-! ### One lemma per action -/

theorem tagFrame_incrementScrollX (p : Ppu) : TagFrame p (incrementScrollX p) := by
  unfold incrementScrollX
  split
  · split <;> (constructor <;> first | rfl | exact fun _ _ => rfl)
  · exact .refl p

theorem tagFrame_incrementScrollY (p : Ppu) : TagFrame p (incrementScrollY p) := by
  unfold incrementScrollY
  split
  · split
    · constructor <;> first | rfl | exact fun _ _ => rfl
    · dsimp only
      split
      · constructor <;> first | rfl | exact fun _ _ => rfl
      · split <;> (constructor <;> first | rfl | exact fun _ _ => rfl)
  · exact .refl p

theorem tagFrame_transferX (p : Ppu) : TagFrame p (transferX p) := by
  unfold transferX
  split <;> (constructor <;> first | rfl | exact fun _ _ => rfl)

theorem tagFrame_transferY (p : Ppu) : TagFrame p (transferY p) := by
  unfold transferY
  split <;> (constructor <;> first | rfl | exact fun _ _ => rfl)

theorem tagFrame_loadBgShifters (p : Ppu) : TagFrame p (loadBgShifters p) := by
  constructor <;> first | rfl | exact fun _ _ => rfl

theorem tagFrame_fetchNametable (cart : Option Cartridge) (p : Ppu) : TagFrame p (fetchNametable cart p) := by
  constructor <;> first | rfl | exact fun _ _ => rfl

theorem tagFrame_updateShifters (p : Ppu) : TagFrame p (updateShifters p) := by
  refine .trans (q := shiftBackground p) ?_ ?_
  · unfold shiftBackground
    split <;> (constructor <;> first | rfl | exact fun _ _ => rfl)
  · unfold updateShifters shiftSprites
    split <;> (constructor <;> first | rfl | exact fun _ _ => rfl)

theorem tagFrame_processTile (cart : Option Cartridge) (p : Ppu) : TagFrame p (processTile cart p) := by
  refine .trans (tagFrame_updateShifters p) ?_
  unfold processTile
  dsimp only
  split
  · exact .trans (tagFrame_loadBgShifters _) (tagFrame_fetchNametable cart _)
  · constructor <;> first | rfl | exact fun _ _ => rfl
  · constructor <;> first | rfl | exact fun _ _ => rfl
  · constructor <;> first | rfl | exact fun _ _ => rfl
  · exact tagFrame_incrementScrollX _
  · exact .refl _

theorem tagFrame_preRenderClear (p : Ppu) : TagFrame p (preRenderClear p) := by
  refine .trans (tagFrame_setVerticalBlank p false) (.trans (tagFrame_setSpriteOverflow _ false)
    (.trans (tagFrame_setSpriteZeroHit _ false) ?_))
  constructor <;> first | rfl | exact fun _ _ => rfl

theorem tagFrame_endOfFrame (p : Ppu) : TagFrame p (endOfFrame p) := by
  refine .trans (tagFrame_setVerticalBlank p true) ?_
  unfold endOfFrame
  dsimp only
  split <;> (constructor <;> first | rfl | exact fun _ _ => rfl)

theorem tagFrame_scanOam (ns : List Nat) (p : Ppu) : TagFrame p (scanOam ns p) := by
  induction ns generalizing p with
  | nil => exact .refl p
  | cons n ns ih =>
    simp only [scanOam]
    split
    · split
      · refine .trans (q := collectSprite n p) ?_ (ih _)
        constructor <;> first | rfl | exact fun _ _ => rfl
      · exact tagFrame_setSpriteOverflow p true
    · exact ih p

theorem tagFrame_oamEvaluate (p : Ppu) : TagFrame p (oamEvaluate p) := by
  refine .trans ?_ (tagFrame_scanOam _ _)
  constructor <;> first | rfl | exact fun _ _ => rfl

theorem tagFrame_spriteFetch (cart : Option Cartridge) (p : Ppu) : TagFrame p (spriteFetch cart p) := by
  constructor <;> first | rfl | exact fun _ _ => rfl

theorem tagFrame_whenTag (here : Ppu → Bool) {act : Ppu → Ppu} (p : Ppu) (h : TagFrame p (act p)) :
    TagFrame p (whenTag here act p) := by
  unfold whenTag
  split
  · exact h
  · exact .refl p

/-- No tag action changes what is in the frame. -/
theorem tagFrame_tagActions (cart : Option Cartridge) (p : Ppu) : TagFrame p (tagActions cart p) := by
  unfold tagActions
  dsimp only
  refine .trans (tagFrame_whenTag Ppu.atPreRenderClear p (tagFrame_preRenderClear p)) ?_
  refine .trans (tagFrame_whenTag Ppu.atTransferY _ (tagFrame_transferY _)) ?_
  refine .trans (tagFrame_whenTag Ppu.atProcessTile _ (tagFrame_processTile cart _)) ?_
  refine .trans (tagFrame_whenTag Ppu.atIncrementY _ (tagFrame_incrementScrollY _)) ?_
  refine .trans (tagFrame_whenTag Ppu.atTransferX (act := fun p => transferX (loadBgShifters p)) _
    (.trans (tagFrame_loadBgShifters _) (tagFrame_transferX _))) ?_
  refine .trans (tagFrame_whenTag Ppu.atExtraFetch _ (tagFrame_fetchNametable cart _)) ?_
  refine .trans (tagFrame_whenTag Ppu.atOamEvaluation _ (tagFrame_oamEvaluate _)) ?_
  refine .trans (tagFrame_whenTag Ppu.atSpriteFetch _ (tagFrame_spriteFetch cart _)) ?_
  exact tagFrame_whenTag Ppu.atEndOfFrame _ (tagFrame_endOfFrame _)

/-! ### The sprite count and the NMI latch -/

/-- A bound or a value an action keeps, it keeps where its tag may or may not match. -/
theorem whenTag_keeps {P : Ppu → Prop} (here : Ppu → Bool) {act : Ppu → Ppu} (h : ∀ p, P p → P (act p)) {p : Ppu}
    (hp : P p) : P (whenTag here act p) := by
  unfold whenTag
  split
  · exact h p hp
  · exact hp

theorem scanOam_spriteCount (ns : List Nat) {p : Ppu} (h : p.spriteCount ≤ 8) : (scanOam ns p).spriteCount ≤ 8 := by
  induction ns generalizing p with
  | nil => exact h
  | cons n ns ih =>
    simp only [scanOam]
    split
    · split
      · next hc => exact ih (p := collectSprite n p) hc
      · exact h
    · exact ih h

/-- The two latches of an action that is neither the OAM evaluation nor the end of the frame. -/
def latches (p : Ppu) : Nat × Bool := (p.spriteCount, p.nmiPending)

theorem incrementScrollX_latches (p : Ppu) : latches (incrementScrollX p) = latches p := by
  unfold incrementScrollX; split <;> first | rfl | (split <;> rfl)

theorem incrementScrollY_latches (p : Ppu) : latches (incrementScrollY p) = latches p := by
  unfold incrementScrollY
  split
  · split
    · rfl
    · dsimp only; split <;> first | rfl | (split <;> rfl)
  · rfl

theorem transferX_latches (p : Ppu) : latches (transferX p) = latches p := by unfold transferX; split <;> rfl

theorem transferY_latches (p : Ppu) : latches (transferY p) = latches p := by unfold transferY; split <;> rfl

theorem processTile_latches (cart : Option Cartridge) (p : Ppu) : latches (processTile cart p) = latches p := by
  have hb : latches (shiftBackground p) = latches p := by unfold shiftBackground; split <;> rfl
  have hu : latches (updateShifters p) = latches p := by
    rw [← hb]; unfold updateShifters shiftSprites; split <;> rfl
  rw [← hu]
  unfold processTile
  dsimp only
  split <;> first | rfl | exact incrementScrollX_latches _

theorem scanOam_nmiPending (ns : List Nat) (p : Ppu) : (scanOam ns p).nmiPending = p.nmiPending := by
  induction ns generalizing p with
  | nil => rfl
  | cons n ns ih =>
    simp only [scanOam]
    split
    · split
      · exact ih (collectSprite n p)
      · rfl
    · exact ih p

/-- What every tag action but the OAM evaluation and the end of the frame keeps, `tagActions` keeps up to those two. -/
theorem tagActions_keeps {P : Ppu → Prop} (hl : ∀ {p q}, latches q = latches p → P p → P q)
    (he : ∀ p, P p → P (oamEvaluate p)) (hf : ∀ p, P p → P (endOfFrame p)) (cart : Option Cartridge) {p : Ppu}
    (hp : P p) : P (tagActions cart p) := by
  unfold tagActions
  dsimp only
  refine whenTag_keeps Ppu.atEndOfFrame hf ?_
  refine whenTag_keeps Ppu.atSpriteFetch (fun _ h => hl (by rfl) h) ?_
  refine whenTag_keeps Ppu.atOamEvaluation he ?_
  refine whenTag_keeps Ppu.atExtraFetch (fun _ h => hl (by rfl) h) ?_
  refine whenTag_keeps Ppu.atTransferX (fun _ h => hl (transferX_latches _) (hl (by rfl) h)) ?_
  refine whenTag_keeps Ppu.atIncrementY (fun _ h => hl (incrementScrollY_latches _) h) ?_
  refine whenTag_keeps Ppu.atProcessTile (fun _ h => hl (processTile_latches cart _) h) ?_
  refine whenTag_keeps Ppu.atTransferY (fun _ h => hl (transferY_latches _) h) ?_
  exact whenTag_keeps Ppu.atPreRenderClear (fun _ h => hl (by rfl) h) hp

theorem tagActions_spriteCount (cart : Option Cartridge) {p : Ppu} (h : p.spriteCount ≤ 8) :
    (tagActions cart p).spriteCount ≤ 8 := by
  refine tagActions_keeps (P := fun p => p.spriteCount ≤ 8) (fun {p q} hl h => ?_) (fun p _ => ?_) (fun p h => ?_) cart h
  · have : q.spriteCount = p.spriteCount := congrArg Prod.fst hl
    omega
  · exact scanOam_spriteCount _ (Nat.zero_le 8)
  · unfold endOfFrame; dsimp only; split <;> exact h

/-- The NMI latch is never cleared by a tag action. -/
theorem tagActions_nmiPending_of (cart : Option Cartridge) {p : Ppu} (h : p.nmiPending = true) :
    (tagActions cart p).nmiPending = true := by
  refine tagActions_keeps (P := fun p => p.nmiPending = true) (fun {p q} hl h => ?_) (fun p h => ?_) (fun p h => ?_)
    cart h
  · have : q.nmiPending = p.nmiPending := congrArg Prod.snd hl
    rw [this, h]
  · exact (scanOam_nmiPending _ _).trans h
  · unfold endOfFrame; dsimp only; split <;> first | rfl | exact h

end Sys2Proof.Machine
end

