-- ==== Sys2Proof/Laws/Runs.lean ====
section
/-! SUPPORT. Runs of ticks, and what the host's bounded loop answers (R454). -/

namespace Sys2Proof.Machine

/-- A run of `m + n` ticks is one of `m`, then one of `n`. -/
theorem run_add {m n : Nat} {s t : State} (h : run m s = .next t) : run (m + n) s = run n t := by
  induction m generalizing s with
  | zero => simp only [run] at h; cases h; simp
  | succ m ih =>
    rw [Nat.succ_add]
    simp only [run] at h ⊢
    split at h
    · exact ih h
    · rename_i stop
      rw [h] at stop
      exact absurd rfl (stop t)

/-- A run that goes on passed through a next state at every tick before. -/
theorem run_prefix {m n : Nat} {s t : State} (h : run n s = .next t) (hm : m ≤ n) : ∃ u, run m s = .next u := by
  induction m generalizing n s with
  | zero => exact ⟨s, rfl⟩
  | succ m ih =>
    obtain ⟨n, rfl⟩ : ∃ k, n = k + 1 := ⟨n - 1, by omega⟩
    simp only [run] at h ⊢
    split at h
    · exact ih h (by omega)
    · rename_i stop
      rw [h] at stop
      exact absurd rfl (stop t)

/-- What the loop answers: the first state after at least one tick that meets the test, within the bound. -/
theorem clockUntil_next {done : State → Bool} {fuel : Nat} {s t : State}
    (h : clockUntil done fuel s = some (.next t)) :
    ∃ n, 1 ≤ n ∧ n ≤ fuel ∧ run n s = .next t ∧ done t = true ∧
      ∀ k w, 1 ≤ k → k < n → run k s = .next w → done w = false := by
  induction fuel generalizing s with
  | zero => simp [clockUntil] at h
  | succ fuel ih =>
    simp only [clockUntil] at h
    split at h
    · rename_i u hu
      split at h
      · rename_i hd
        cases h
        exact ⟨1, by omega, by omega, by simp [run, hu], hd, fun k w hk hk' _ => by omega⟩
      · rename_i hd
        obtain ⟨n, h1, h2, h3, h4, h5⟩ := ih h
        refine ⟨n + 1, by omega, by omega, by simpa [run, hu] using h3, h4, fun k w hk hk' hw => ?_⟩
        obtain ⟨k, rfl⟩ : ∃ j, k = j + 1 := ⟨k - 1, by omega⟩
        simp only [run, hu] at hw
        rcases Nat.eq_zero_or_pos k with rfl | hk0
        · simp only [run] at hw; cases hw; simpa using hd
        · exact h5 k w hk0 (by omega) hw
    · rename_i stop
      exact absurd (Option.some.inj h) (by intro e; exact stop t (by rw [e]))

/-- Where some run meets the test, the loop answers the same state for every bound from that run's length on. -/
theorem clockUntil_of_run {done : State → Bool} {n : Nat} {s t : State} (hn : 1 ≤ n) (h : run n s = .next t)
    (hd : done t = true) : ∃ u, ∀ fuel, n ≤ fuel → clockUntil done fuel s = some (.next u) := by
  induction n generalizing s with
  | zero => omega
  | succ n ih =>
    simp only [run] at h
    split at h
    · rename_i v hv
      by_cases hdv : done v = true
      · refine ⟨v, fun fuel hf => ?_⟩
        obtain ⟨f, rfl⟩ : ∃ j, fuel = j + 1 := ⟨fuel - 1, by omega⟩
        simp [clockUntil, hv, hdv]
      · have hn0 : 1 ≤ n := by
          rcases Nat.eq_zero_or_pos n with rfl | hn0
          · simp only [run] at h; cases h; exact absurd hd hdv
          · exact hn0
        obtain ⟨u, hu⟩ := ih hn0 h
        refine ⟨u, fun fuel hf => ?_⟩
        obtain ⟨f, rfl⟩ : ∃ j, fuel = j + 1 := ⟨fuel - 1, by omega⟩
        simpa [clockUntil, hv, hdv] using hu f (by omega)
    · rename_i stop
      rw [h] at stop
      exact absurd rfl (stop t)

end Sys2Proof.Machine
end

