-- ==== Sys2Proof/Tests/Slice0.lean ====
section
/-! SUPPORT. The model's own tests. The expected values are the spec's: the opcode table's encodings, and the vectors TV-*
of spec/95_test_vectors.md, named in the comments. The last part gives each statement with hypotheses a state and operands
that meet them. -/

namespace Sys2Proof.Tests

open Sys2Proof.Machine

/-! ### Well-formedness: the one check, with a term it refuses -/

theorem test_wf_refuses_a_documented_byte : (Instr.illegal 0xA9).wf = false := by decide

theorem test_wf_accepts :
    (Instr.illegal 0x02).wf = true ∧ (Instr.illegal 0xFF).wf = true ∧ (Instr.ldaAbx 0xFFFF).wf = true := by decide

/-! ### Decoding: for every constructor a word written out from the table, operand bytes 0x34 and 0x12 -/

/-- Bit by bit from the `encoding` column: later bytes in the higher bits. -/
theorem test_decode_bits :
    decodeTableWord 16 0b11110000_10110001 = some (.ldaIzy 0xF0) ∧
    decodeTableWord 24 0b10000000_00000001_10011001 = some (.staAby 0x8001) ∧
    decodeTableWord 24 0b00000010_11111111_01101100 = some (.jmpInd 0x02FF) ∧
    decodeTableWord 8 0b01101010 = some .rorAcc := by decide

theorem test_decode_illegal : ∀ b ∈ illegalOpcodes, decodeTableWord 8 b.toNat = some (.illegal b) := by decide

theorem test_decode_refuses :
    decode [] = .error .empty ∧ decode [0xA9] = .error .truncated ∧ decode [0xAD, 0x00] = .error .truncated := by decide

theorem test_decode_loads :
    decodeTableWord 16 0x34A1 = some (.ldaIzx 0x34) ∧ decodeTableWord 16 0x34A5 = some (.ldaZp0 0x34) ∧
    decodeTableWord 16 0x34A9 = some (.ldaImm 0x34) ∧ decodeTableWord 24 0x1234AD = some (.ldaAbs 0x1234) ∧
    decodeTableWord 16 0x34B1 = some (.ldaIzy 0x34) ∧ decodeTableWord 16 0x34B5 = some (.ldaZpx 0x34) ∧
    decodeTableWord 24 0x1234B9 = some (.ldaAby 0x1234) ∧ decodeTableWord 24 0x1234BD = some (.ldaAbx 0x1234) ∧
    decodeTableWord 16 0x34A2 = some (.ldxImm 0x34) ∧ decodeTableWord 16 0x34A6 = some (.ldxZp0 0x34) ∧
    decodeTableWord 24 0x1234AE = some (.ldxAbs 0x1234) ∧ decodeTableWord 16 0x34B6 = some (.ldxZpy 0x34) ∧
    decodeTableWord 24 0x1234BE = some (.ldxAby 0x1234) ∧ decodeTableWord 16 0x34A0 = some (.ldyImm 0x34) ∧
    decodeTableWord 16 0x34A4 = some (.ldyZp0 0x34) ∧ decodeTableWord 24 0x1234AC = some (.ldyAbs 0x1234) ∧
    decodeTableWord 16 0x34B4 = some (.ldyZpx 0x34) ∧
    decodeTableWord 24 0x1234BC = some (.ldyAbx 0x1234) := by decide

theorem test_decode_stores :
    decodeTableWord 16 0x3481 = some (.staIzx 0x34) ∧ decodeTableWord 16 0x3485 = some (.staZp0 0x34) ∧
    decodeTableWord 24 0x12348D = some (.staAbs 0x1234) ∧ decodeTableWord 16 0x3491 = some (.staIzy 0x34) ∧
    decodeTableWord 16 0x3495 = some (.staZpx 0x34) ∧ decodeTableWord 24 0x123499 = some (.staAby 0x1234) ∧
    decodeTableWord 24 0x12349D = some (.staAbx 0x1234) ∧ decodeTableWord 16 0x3486 = some (.stxZp0 0x34) ∧
    decodeTableWord 24 0x12348E = some (.stxAbs 0x1234) ∧ decodeTableWord 16 0x3496 = some (.stxZpy 0x34) ∧
    decodeTableWord 16 0x3484 = some (.styZp0 0x34) ∧ decodeTableWord 24 0x12348C = some (.styAbs 0x1234) ∧
    decodeTableWord 16 0x3494 = some (.styZpx 0x34) := by decide

theorem test_decode_transfers :
    decodeTableWord 8 0xAA = some .tax ∧ decodeTableWord 8 0xA8 = some .tay ∧ decodeTableWord 8 0xBA = some .tsx ∧
    decodeTableWord 8 0x8A = some .txa ∧ decodeTableWord 8 0x9A = some .txs ∧
    decodeTableWord 8 0x98 = some .tya := by decide

theorem test_decode_arithmetic :
    decodeTableWord 16 0x3461 = some (.adcIzx 0x34) ∧ decodeTableWord 16 0x3465 = some (.adcZp0 0x34) ∧
    decodeTableWord 16 0x3469 = some (.adcImm 0x34) ∧ decodeTableWord 24 0x12346D = some (.adcAbs 0x1234) ∧
    decodeTableWord 16 0x3471 = some (.adcIzy 0x34) ∧ decodeTableWord 16 0x3475 = some (.adcZpx 0x34) ∧
    decodeTableWord 24 0x123479 = some (.adcAby 0x1234) ∧ decodeTableWord 24 0x12347D = some (.adcAbx 0x1234) ∧
    decodeTableWord 16 0x34E1 = some (.sbcIzx 0x34) ∧ decodeTableWord 16 0x34E5 = some (.sbcZp0 0x34) ∧
    decodeTableWord 16 0x34E9 = some (.sbcImm 0x34) ∧ decodeTableWord 24 0x1234ED = some (.sbcAbs 0x1234) ∧
    decodeTableWord 16 0x34F1 = some (.sbcIzy 0x34) ∧ decodeTableWord 16 0x34F5 = some (.sbcZpx 0x34) ∧
    decodeTableWord 24 0x1234F9 = some (.sbcAby 0x1234) ∧ decodeTableWord 24 0x1234FD = some (.sbcAbx 0x1234) ∧
    decodeTableWord 16 0x34E6 = some (.incZp0 0x34) ∧ decodeTableWord 24 0x1234EE = some (.incAbs 0x1234) ∧
    decodeTableWord 16 0x34F6 = some (.incZpx 0x34) ∧ decodeTableWord 24 0x1234FE = some (.incAbx 0x1234) ∧
    decodeTableWord 8 0xE8 = some .inx ∧ decodeTableWord 8 0xC8 = some .iny ∧
    decodeTableWord 16 0x34C6 = some (.decZp0 0x34) ∧ decodeTableWord 24 0x1234CE = some (.decAbs 0x1234) ∧
    decodeTableWord 16 0x34D6 = some (.decZpx 0x34) ∧ decodeTableWord 24 0x1234DE = some (.decAbx 0x1234) ∧
    decodeTableWord 8 0xCA = some .dex ∧ decodeTableWord 8 0x88 = some .dey := by decide

theorem test_decode_logic :
    decodeTableWord 16 0x3421 = some (.andIzx 0x34) ∧ decodeTableWord 16 0x3425 = some (.andZp0 0x34) ∧
    decodeTableWord 16 0x3429 = some (.andImm 0x34) ∧ decodeTableWord 24 0x12342D = some (.andAbs 0x1234) ∧
    decodeTableWord 16 0x3431 = some (.andIzy 0x34) ∧ decodeTableWord 16 0x3435 = some (.andZpx 0x34) ∧
    decodeTableWord 24 0x123439 = some (.andAby 0x1234) ∧ decodeTableWord 24 0x12343D = some (.andAbx 0x1234) ∧
    decodeTableWord 16 0x3401 = some (.oraIzx 0x34) ∧ decodeTableWord 16 0x3405 = some (.oraZp0 0x34) ∧
    decodeTableWord 16 0x3409 = some (.oraImm 0x34) ∧ decodeTableWord 24 0x12340D = some (.oraAbs 0x1234) ∧
    decodeTableWord 16 0x3411 = some (.oraIzy 0x34) ∧ decodeTableWord 16 0x3415 = some (.oraZpx 0x34) ∧
    decodeTableWord 24 0x123419 = some (.oraAby 0x1234) ∧ decodeTableWord 24 0x12341D = some (.oraAbx 0x1234) ∧
    decodeTableWord 16 0x3441 = some (.eorIzx 0x34) ∧ decodeTableWord 16 0x3445 = some (.eorZp0 0x34) ∧
    decodeTableWord 16 0x3449 = some (.eorImm 0x34) ∧ decodeTableWord 24 0x12344D = some (.eorAbs 0x1234) ∧
    decodeTableWord 16 0x3451 = some (.eorIzy 0x34) ∧ decodeTableWord 16 0x3455 = some (.eorZpx 0x34) ∧
    decodeTableWord 24 0x123459 = some (.eorAby 0x1234) ∧ decodeTableWord 24 0x12345D = some (.eorAbx 0x1234) ∧
    decodeTableWord 16 0x3424 = some (.bitZp0 0x34) ∧
    decodeTableWord 24 0x12342C = some (.bitAbs 0x1234) := by decide

theorem test_decode_shifts :
    decodeTableWord 16 0x3406 = some (.aslZp0 0x34) ∧ decodeTableWord 8 0x0A = some .aslAcc ∧
    decodeTableWord 24 0x12340E = some (.aslAbs 0x1234) ∧ decodeTableWord 16 0x3416 = some (.aslZpx 0x34) ∧
    decodeTableWord 24 0x12341E = some (.aslAbx 0x1234) ∧ decodeTableWord 16 0x3446 = some (.lsrZp0 0x34) ∧
    decodeTableWord 8 0x4A = some .lsrAcc ∧ decodeTableWord 24 0x12344E = some (.lsrAbs 0x1234) ∧
    decodeTableWord 16 0x3456 = some (.lsrZpx 0x34) ∧ decodeTableWord 24 0x12345E = some (.lsrAbx 0x1234) ∧
    decodeTableWord 16 0x3426 = some (.rolZp0 0x34) ∧ decodeTableWord 8 0x2A = some .rolAcc ∧
    decodeTableWord 24 0x12342E = some (.rolAbs 0x1234) ∧ decodeTableWord 16 0x3436 = some (.rolZpx 0x34) ∧
    decodeTableWord 24 0x12343E = some (.rolAbx 0x1234) ∧ decodeTableWord 16 0x3466 = some (.rorZp0 0x34) ∧
    decodeTableWord 8 0x6A = some .rorAcc ∧ decodeTableWord 24 0x12346E = some (.rorAbs 0x1234) ∧
    decodeTableWord 16 0x3476 = some (.rorZpx 0x34) ∧
    decodeTableWord 24 0x12347E = some (.rorAbx 0x1234) := by decide

theorem test_decode_branches :
    decodeTableWord 16 0x3490 = some (.bcc 0x34) ∧ decodeTableWord 16 0x34B0 = some (.bcs 0x34) ∧
    decodeTableWord 16 0x34F0 = some (.beq 0x34) ∧ decodeTableWord 16 0x3430 = some (.bmi 0x34) ∧
    decodeTableWord 16 0x34D0 = some (.bne 0x34) ∧ decodeTableWord 16 0x3410 = some (.bpl 0x34) ∧
    decodeTableWord 16 0x3450 = some (.bvc 0x34) ∧ decodeTableWord 16 0x3470 = some (.bvs 0x34) := by decide

theorem test_decode_compares :
    decodeTableWord 16 0x34C1 = some (.cmpIzx 0x34) ∧ decodeTableWord 16 0x34C5 = some (.cmpZp0 0x34) ∧
    decodeTableWord 16 0x34C9 = some (.cmpImm 0x34) ∧ decodeTableWord 24 0x1234CD = some (.cmpAbs 0x1234) ∧
    decodeTableWord 16 0x34D1 = some (.cmpIzy 0x34) ∧ decodeTableWord 16 0x34D5 = some (.cmpZpx 0x34) ∧
    decodeTableWord 24 0x1234D9 = some (.cmpAby 0x1234) ∧ decodeTableWord 24 0x1234DD = some (.cmpAbx 0x1234) ∧
    decodeTableWord 16 0x34E0 = some (.cpxImm 0x34) ∧ decodeTableWord 16 0x34E4 = some (.cpxZp0 0x34) ∧
    decodeTableWord 24 0x1234EC = some (.cpxAbs 0x1234) ∧ decodeTableWord 16 0x34C0 = some (.cpyImm 0x34) ∧
    decodeTableWord 16 0x34C4 = some (.cpyZp0 0x34) ∧
    decodeTableWord 24 0x1234CC = some (.cpyAbs 0x1234) := by decide

theorem test_decode_jumps :
    decodeTableWord 24 0x12344C = some (.jmpAbs 0x1234) ∧ decodeTableWord 24 0x12346C = some (.jmpInd 0x1234) ∧
    decodeTableWord 24 0x123420 = some (.jsr 0x1234) ∧ decodeTableWord 8 0x60 = some .rts ∧
    decodeTableWord 8 0x00 = some .brk ∧ decodeTableWord 8 0x40 = some .rti := by decide

theorem test_decode_stack :
    decodeTableWord 8 0x48 = some .pha ∧ decodeTableWord 8 0x08 = some .php ∧ decodeTableWord 8 0x68 = some .pla ∧
    decodeTableWord 8 0x28 = some .plp := by decide

theorem test_decode_flags :
    decodeTableWord 8 0x18 = some .clc ∧ decodeTableWord 8 0x38 = some .sec ∧ decodeTableWord 8 0xD8 = some .cld ∧
    decodeTableWord 8 0xF8 = some .sed ∧ decodeTableWord 8 0x58 = some .cli ∧ decodeTableWord 8 0x78 = some .sei ∧
    decodeTableWord 8 0xB8 = some .clv ∧ decodeTableWord 8 0xEA = some .nop := by decide

/-! ### Instructions: one step each, through the fetch -/

/-- The vectors' CPU. -/
def testCpu : Cpu := { Cpu.reset 0x8000 with cycles := 0 }

/-- A machine about to dispatch, with its code in PRG ROM at PC, the BRK vector 0x9000 and the NMI vector 0xA000. -/
def testMachine (code : List Byte) (ram : List (Nat × Byte)) (cpu : Cpu) : State :=
  let place := fun (m : Memory Byte) (q : Nat × Byte) => m.write zeroByte q.1 q.2
  let at0 := cpu.pc.toNat - 0x8000
  { State.reset with
    cpu := cpu, ticks := 2, ram := ram.foldl place []
    cart := some { mirroring := .vertical, prgBanks := .one, chrBanks := .one, mapper := .nrom, trainer := false
                   prgRom := ((code.zipIdx.map fun (q : Byte × Nat) => (at0 + q.2, q.1)) ++ [(0x3FFB, 0xA0), (0x3FFF, 0x90)]).foldl place []
                   chrRom := [] } }

/-- The next state, if there is one. -/
def next? (o : Host.Outcome State Fault Refusal) : Option State :=
  match o with
  | .next s => some s
  | _ => none

/-- What a test looks at: the registers, the instruction's clocks, and the bytes of RAM it asked for. -/
structure Seen where
  a      : Byte
  x      : Byte
  y      : Byte
  sp     : Byte
  p      : Byte
  pc     : Word
  clocks : Nat
  bytes  : List Byte
deriving DecidableEq, Repr

/-- One step. -/
def after (code : List Byte) (ram : List (Nat × Byte)) (cpu : Cpu) (asked : List Word) : Option Seen :=
  (next? (step (testMachine code ram cpu))).map fun t =>
    ⟨t.cpu.a, t.cpu.x, t.cpu.y, t.cpu.sp, t.cpu.p, t.cpu.pc, t.cpu.cycles + 1, asked.map t.ramByte⟩

/-- TV-LS-1, TV-ADDR-8. -/
theorem test_lda :
    after [0xA9, 0x00] []
      { testCpu with a := 0x12 } [] =
      some ⟨0x00, 0x00, 0x00, 0xFD, 0x22, 0x8002, 2, []⟩ ∧
    after [0xB1, 0x10] [(0x10, 0xF0), (0x11, 0x02), (0x310, 0x5A)]
      { testCpu with y := 0x20 } [] =
      some ⟨0x5A, 0x00, 0x20, 0xFD, 0x20, 0x8002, 6, []⟩ := by decide

/-- TV-ADDR-2. -/
theorem test_ldx :
    after [0xB6, 0xFF] [(0x01, 0x80)]
      { testCpu with y := 0x02 } [] =
      some ⟨0x00, 0x80, 0x02, 0xFD, 0xA0, 0x8002, 4, []⟩ := by decide

/-- TV-LS-3. -/
theorem test_ldy :
    after [0xA0, 0x7F] []
      { testCpu with p := 0xA2 } [] =
      some ⟨0x00, 0x00, 0x7F, 0xFD, 0x20, 0x8002, 2, []⟩ := by decide

/-- TV-ADDR-6. -/
theorem test_sta :
    after [0x9D, 0xF0, 0x02] []
      { testCpu with a := 0x44, x := 0x20 } [0x310] =
      some ⟨0x44, 0x20, 0x00, 0xFD, 0x20, 0x8003, 5, [0x44]⟩ := by decide

/-- TV-LS-4. -/
theorem test_stx :
    after [0x86, 0x40] []
      { testCpu with x := 0x80, p := 0x22 } [0x40] =
      some ⟨0x00, 0x80, 0x00, 0xFD, 0x22, 0x8002, 3, [0x80]⟩ := by decide

/-- TV-LS-5. -/
theorem test_sty :
    after [0x94, 0xFF] []
      { testCpu with x := 0x02, y := 0x12 } [0x01] =
      some ⟨0x00, 0x02, 0x12, 0xFD, 0x20, 0x8002, 4, [0x12]⟩ := by decide

/-- TV-LS-6. -/
theorem test_tax :
    after [0xAA] []
      { testCpu with x := 0x55 } [] =
      some ⟨0x00, 0x00, 0x00, 0xFD, 0x22, 0x8001, 2, []⟩ := by decide

/-- TV-LS-11. -/
theorem test_tay :
    after [0xA8] []
      { testCpu with a := 0x80 } [] =
      some ⟨0x80, 0x00, 0x80, 0xFD, 0xA0, 0x8001, 2, []⟩ := by decide

/-- TV-LS-7. -/
theorem test_tsx :
    after [0xBA] []
      { testCpu with sp := 0x80 } [] =
      some ⟨0x00, 0x80, 0x00, 0x80, 0xA0, 0x8001, 2, []⟩ := by decide

/-- TV-LS-10. -/
theorem test_txa :
    after [0x8A] []
      { testCpu with x := 0x9C } [] =
      some ⟨0x9C, 0x9C, 0x00, 0xFD, 0xA0, 0x8001, 2, []⟩ := by decide

/-- TV-LS-8. -/
theorem test_txs :
    after [0x9A] []
      testCpu [] =
      some ⟨0x00, 0x00, 0x00, 0x00, 0x20, 0x8001, 2, []⟩ := by decide

/-- TV-LS-9. -/
theorem test_tya :
    after [0x98] []
      { testCpu with y := 0xFE } [] =
      some ⟨0xFE, 0x00, 0xFE, 0xFD, 0xA0, 0x8001, 2, []⟩ := by decide

/-- TV-AR-1, TV-AR-11. -/
theorem test_adc :
    after [0x69, 0x50] []
      { testCpu with a := 0x50 } [] =
      some ⟨0xA0, 0x00, 0x00, 0xFD, 0xE0, 0x8002, 2, []⟩ ∧
    after [0x7D, 0xF0, 0x02] [(0x310, 0x01)]
      { testCpu with a := 0x01, x := 0x20 } [] =
      some ⟨0x02, 0x20, 0x00, 0xFD, 0x20, 0x8003, 5, []⟩ := by decide

/-- TV-AR-10, TV-AR-9. -/
theorem test_sbc :
    after [0xE9, 0x01] []
      { testCpu with a := 0x80, p := 0x21 } [] =
      some ⟨0x7F, 0x00, 0x00, 0xFD, 0x61, 0x8002, 2, []⟩ ∧
    after [0xE9, 0x05] []
      { testCpu with a := 0x05 } [] =
      some ⟨0xFF, 0x00, 0x00, 0xFD, 0xA0, 0x8002, 2, []⟩ := by decide

/-- TV-AR-12, TV-AR-14. -/
theorem test_inc :
    after [0xE6, 0x10] [(0x10, 0xFF)]
      { testCpu with p := 0x21 } [0x10] =
      some ⟨0x00, 0x00, 0x00, 0xFD, 0x23, 0x8002, 5, [0x00]⟩ ∧
    after [0xFE, 0xF0, 0x02] [(0x310, 0x7F)]
      { testCpu with x := 0x20 } [0x310] =
      some ⟨0x00, 0x20, 0x00, 0xFD, 0xA0, 0x8003, 7, [0x80]⟩ := by decide

/-- TV-AR-15. -/
theorem test_inx :
    after [0xE8] []
      { testCpu with x := 0xFF } [] =
      some ⟨0x00, 0x00, 0x00, 0xFD, 0x22, 0x8001, 2, []⟩ := by decide

/-- TV-AR-16. -/
theorem test_iny :
    after [0xC8] []
      { testCpu with y := 0x7F } [] =
      some ⟨0x00, 0x00, 0x80, 0xFD, 0xA0, 0x8001, 2, []⟩ := by decide

/-- TV-AR-13. -/
theorem test_dec :
    after [0xC6, 0x10] []
      testCpu [0x10] =
      some ⟨0x00, 0x00, 0x00, 0xFD, 0xA0, 0x8002, 5, [0xFF]⟩ := by decide

/-- TV-AR-17. -/
theorem test_dex :
    after [0xCA] []
      { testCpu with x := 0x01 } [] =
      some ⟨0x00, 0x00, 0x00, 0xFD, 0x22, 0x8001, 2, []⟩ := by decide

/-- TV-AR-18. -/
theorem test_dey :
    after [0x88] []
      testCpu [] =
      some ⟨0x00, 0x00, 0xFF, 0xFD, 0xA0, 0x8001, 2, []⟩ := by decide

/-- TV-LG-4. -/
theorem test_and :
    after [0x31, 0x10] [(0x10, 0xF0), (0x11, 0x02), (0x310, 0x81)]
      { testCpu with a := 0xFF, y := 0x20 } [] =
      some ⟨0x81, 0x00, 0x20, 0xFD, 0xA0, 0x8002, 6, []⟩ := by decide

/-- TV-LG-2. -/
theorem test_ora :
    after [0x09, 0x80] []
      { testCpu with a := 0x01 } [] =
      some ⟨0x81, 0x00, 0x00, 0xFD, 0xA0, 0x8002, 2, []⟩ := by decide

/-- TV-LG-3. -/
theorem test_eor :
    after [0x49, 0xAA] []
      { testCpu with a := 0xAA } [] =
      some ⟨0x00, 0x00, 0x00, 0xFD, 0x22, 0x8002, 2, []⟩ := by decide

/-- TV-LG-5, TV-LG-6. -/
theorem test_bit :
    after [0x24, 0x10] [(0x10, 0xC0)]
      testCpu [] =
      some ⟨0x00, 0x00, 0x00, 0xFD, 0xE2, 0x8002, 3, []⟩ ∧
    after [0x2C, 0x10, 0x00] [(0x10, 0x01)]
      { testCpu with a := 0x01, p := 0xE0 } [] =
      some ⟨0x01, 0x00, 0x00, 0xFD, 0x20, 0x8003, 4, []⟩ := by decide

/-- TV-SH-1, TV-SH-2. -/
theorem test_asl :
    after [0x0A] []
      { testCpu with a := 0x80 } [] =
      some ⟨0x00, 0x00, 0x00, 0xFD, 0x23, 0x8001, 2, []⟩ ∧
    after [0x06, 0x10] [(0x10, 0x41)]
      { testCpu with p := 0x21 } [0x10] =
      some ⟨0x00, 0x00, 0x00, 0xFD, 0xA0, 0x8002, 5, [0x82]⟩ := by decide

/-- TV-SH-4. -/
theorem test_lsr :
    after [0x4A] []
      { testCpu with a := 0xFF, p := 0xA0 } [] =
      some ⟨0x7F, 0x00, 0x00, 0xFD, 0x21, 0x8001, 2, []⟩ := by decide

/-- TV-SH-5, TV-SH-6. -/
theorem test_rol :
    after [0x2A] []
      { testCpu with a := 0x80 } [] =
      some ⟨0x00, 0x00, 0x00, 0xFD, 0x23, 0x8001, 2, []⟩ ∧
    after [0x2A] []
      { testCpu with a := 0x40, p := 0x21 } [] =
      some ⟨0x81, 0x00, 0x00, 0xFD, 0xA0, 0x8001, 2, []⟩ := by decide

/-- TV-SH-8, TV-SH-9. -/
theorem test_ror :
    after [0x6A] []
      { testCpu with p := 0x21 } [] =
      some ⟨0x80, 0x00, 0x00, 0xFD, 0xA0, 0x8001, 2, []⟩ ∧
    after [0x7E, 0xF0, 0x02] [(0x310, 0x02)]
      { testCpu with x := 0x20 } [0x310] =
      some ⟨0x00, 0x20, 0x00, 0xFD, 0x20, 0x8003, 7, [0x01]⟩ := by decide

/-- TV-BR-1, TV-BR-10. -/
theorem test_bne :
    after [0xD0, 0x10] []
      { testCpu with p := 0x22 } [] =
      some ⟨0x00, 0x00, 0x00, 0xFD, 0x22, 0x8002, 2, []⟩ ∧
    after [0xD0, 0x01] []
      { testCpu with pc := 0x80FD } [] =
      some ⟨0x00, 0x00, 0x00, 0xFD, 0x20, 0x8100, 4, []⟩ := by decide

/-- TV-BR-3. -/
theorem test_beq :
    after [0xF0, 0xFE] []
      { testCpu with p := 0x22 } [] =
      some ⟨0x00, 0x00, 0x00, 0xFD, 0x22, 0x8000, 3, []⟩ := by decide

/-- TV-BR-4. -/
theorem test_bcs :
    after [0xB0, 0x7F] []
      { testCpu with p := 0x21, pc := 0x80F0 } [] =
      some ⟨0x00, 0x00, 0x00, 0xFD, 0x21, 0x8171, 4, []⟩ := by decide

/-- TV-BR-5. -/
theorem test_bcc :
    after [0x90, 0x80] []
      { testCpu with pc := 0x8010 } [] =
      some ⟨0x00, 0x00, 0x00, 0xFD, 0x20, 0x7F92, 4, []⟩ := by decide

/-- TV-BR-6. -/
theorem test_bmi :
    after [0x30, 0x02] []
      { testCpu with p := 0xA0 } [] =
      some ⟨0x00, 0x00, 0x00, 0xFD, 0xA0, 0x8004, 3, []⟩ := by decide

/-- TV-BR-7. -/
theorem test_bpl :
    after [0x10, 0x02] []
      { testCpu with p := 0xA0 } [] =
      some ⟨0x00, 0x00, 0x00, 0xFD, 0xA0, 0x8002, 2, []⟩ := by decide

/-- TV-BR-8. -/
theorem test_bvs :
    after [0x70, 0x02] []
      { testCpu with p := 0x60 } [] =
      some ⟨0x00, 0x00, 0x00, 0xFD, 0x60, 0x8004, 3, []⟩ := by decide

/-- TV-BR-9. -/
theorem test_bvc :
    after [0x50, 0x02] []
      { testCpu with p := 0x60 } [] =
      some ⟨0x00, 0x00, 0x00, 0xFD, 0x60, 0x8002, 2, []⟩ := by decide

/-- TV-CMP-2, TV-CMP-6. -/
theorem test_cmp :
    after [0xC9, 0x20] []
      { testCpu with a := 0x10 } [] =
      some ⟨0x10, 0x00, 0x00, 0xFD, 0xA0, 0x8002, 2, []⟩ ∧
    after [0xD9, 0xF0, 0x02] [(0x310, 0x05)]
      { testCpu with a := 0x05, y := 0x20 } [] =
      some ⟨0x05, 0x00, 0x20, 0xFD, 0x23, 0x8003, 5, []⟩ := by decide

/-- TV-CMP-4. -/
theorem test_cpx :
    after [0xE0, 0x80] []
      { testCpu with x := 0x7F } [] =
      some ⟨0x00, 0x7F, 0x00, 0xFD, 0xA0, 0x8002, 2, []⟩ := by decide

/-- TV-CMP-5. -/
theorem test_cpy :
    after [0xC4, 0x10] []
      testCpu [] =
      some ⟨0x00, 0x00, 0x00, 0xFD, 0x23, 0x8002, 3, []⟩ := by decide

/-- TV-JMP-1, TV-SRC-5. -/
theorem test_jmp :
    after [0x4C, 0x34, 0x12] []
      testCpu [] =
      some ⟨0x00, 0x00, 0x00, 0xFD, 0x20, 0x1234, 3, []⟩ ∧
    after [0x6C, 0xFF, 0x12] [(0x2FF, 0x80), (0x200, 0x50)]
      testCpu [] =
      some ⟨0x00, 0x00, 0x00, 0xFD, 0x20, 0x5080, 5, []⟩ := by decide

/-- TV-JMP-2, TV-JMP-3. -/
theorem test_jsr :
    after [0x20, 0x00, 0x90] []
      testCpu [0x1FD, 0x1FC] =
      some ⟨0x00, 0x00, 0x00, 0xFB, 0x20, 0x9000, 6, [0x80, 0x02]⟩ ∧
    after [0x20, 0x00, 0x90] []
      { testCpu with sp := 0x00 } [0x100, 0x1FF] =
      some ⟨0x00, 0x00, 0x00, 0xFE, 0x20, 0x9000, 6, [0x80, 0x02]⟩ := by decide

/-- TV-JMP-4, TV-JMP-5. -/
theorem test_rts :
    after [0x60] [(0x1FC, 0x02), (0x1FD, 0x80)]
      { testCpu with sp := 0xFB } [] =
      some ⟨0x00, 0x00, 0x00, 0xFD, 0x20, 0x8003, 6, []⟩ ∧
    after [0x60] [(0x1FC, 0xFF), (0x1FD, 0xFF)]
      { testCpu with sp := 0xFB } [] =
      some ⟨0x00, 0x00, 0x00, 0xFD, 0x20, 0x0000, 6, []⟩ := by decide

/-- TV-JMP-6, TV-JMP-7. -/
theorem test_brk :
    after [0x00, 0xEE] []
      testCpu [0x1FD, 0x1FC, 0x1FB] =
      some ⟨0x00, 0x00, 0x00, 0xFA, 0x24, 0x9000, 7, [0x80, 0x02, 0x30]⟩ ∧
    after [0x00, 0xEE] []
      { testCpu with p := 0xE3 } [0x1FB] =
      some ⟨0x00, 0x00, 0x00, 0xFA, 0xE7, 0x9000, 7, [0xF3]⟩ := by decide

/-- TV-JMP-8, TV-JMP-9. -/
theorem test_rti :
    after [0x40] [(0x1FB, 0xFF), (0x1FC, 0x02), (0x1FD, 0x80)]
      { testCpu with sp := 0xFA } [] =
      some ⟨0x00, 0x00, 0x00, 0xFD, 0xEF, 0x8002, 6, []⟩ ∧
    after [0x40] [(0x1FC, 0x34), (0x1FD, 0x12)]
      { testCpu with sp := 0xFA } [] =
      some ⟨0x00, 0x00, 0x00, 0xFD, 0x20, 0x1234, 6, []⟩ := by decide

/-- TV-ST-2. -/
theorem test_pha :
    after [0x48] []
      { testCpu with a := 0x42, sp := 0x00 } [0x100] =
      some ⟨0x42, 0x00, 0x00, 0xFF, 0x20, 0x8001, 3, [0x42]⟩ := by decide

/-- TV-ST-3. -/
theorem test_php :
    after [0x08] []
      { testCpu with p := 0x21 } [0x1FD] =
      some ⟨0x00, 0x00, 0x00, 0xFC, 0x21, 0x8001, 3, [0x31]⟩ := by decide

/-- TV-ST-6. -/
theorem test_pla :
    after [0x68] [(0x100, 0x90)]
      { testCpu with sp := 0xFF } [] =
      some ⟨0x90, 0x00, 0x00, 0x00, 0xA0, 0x8001, 4, []⟩ := by decide

/-- TV-ST-7, TV-ST-8. -/
theorem test_plp :
    after [0x28] [(0x1FD, 0xFF)]
      { testCpu with sp := 0xFC } [] =
      some ⟨0x00, 0x00, 0x00, 0xFD, 0xEF, 0x8001, 4, []⟩ ∧
    after [0x28] []
      { testCpu with sp := 0xFC, p := 0xE7 } [] =
      some ⟨0x00, 0x00, 0x00, 0xFD, 0x20, 0x8001, 4, []⟩ := by decide

/-- TV-FL-1. -/
theorem test_clc :
    after [0x18] []
      { testCpu with p := 0x21 } [] =
      some ⟨0x00, 0x00, 0x00, 0xFD, 0x20, 0x8001, 2, []⟩ := by decide

/-- TV-FL-2. -/
theorem test_sec :
    after [0x38] []
      testCpu [] =
      some ⟨0x00, 0x00, 0x00, 0xFD, 0x21, 0x8001, 2, []⟩ := by decide

/-- TV-FL-3. -/
theorem test_cld :
    after [0xD8] []
      { testCpu with p := 0x28 } [] =
      some ⟨0x00, 0x00, 0x00, 0xFD, 0x20, 0x8001, 2, []⟩ := by decide

/-- TV-FL-4. -/
theorem test_sed :
    after [0xF8] []
      testCpu [] =
      some ⟨0x00, 0x00, 0x00, 0xFD, 0x28, 0x8001, 2, []⟩ := by decide

/-- TV-FL-5. -/
theorem test_cli :
    after [0x58] []
      { testCpu with p := 0x24 } [] =
      some ⟨0x00, 0x00, 0x00, 0xFD, 0x20, 0x8001, 2, []⟩ := by decide

/-- TV-FL-6. -/
theorem test_sei :
    after [0x78] []
      testCpu [] =
      some ⟨0x00, 0x00, 0x00, 0xFD, 0x24, 0x8001, 2, []⟩ := by decide

/-- TV-FL-7. -/
theorem test_clv :
    after [0xB8] []
      { testCpu with p := 0x60 } [] =
      some ⟨0x00, 0x00, 0x00, 0xFD, 0x20, 0x8001, 2, []⟩ := by decide

/-- TV-FL-8. -/
theorem test_nop :
    after [0xEA] []
      { testCpu with p := 0xE3 } [] =
      some ⟨0x00, 0x00, 0x00, 0xFD, 0xE3, 0x8001, 2, []⟩ := by decide

/-- TV-FL-9, TV-FL-10: only U changes, and PC moves past one byte. The count is the free constant, so it is not looked at. -/
theorem test_illegal :
    ((next? (step (testMachine [0xFF] [] { testCpu with p := 0x00 }))).map fun t => (t.cpu.p, t.cpu.pc)) =
      some (0x20, 0x8001) ∧
    ((next? (step (testMachine [0x02, 0xA9] [] { testCpu with a := 0x11, p := 0x21 }))).map fun t =>
      (t.cpu.a, t.cpu.p, t.cpu.pc)) = some (0x11, 0x21, 0x8001) := by decide

/-! ### The bus, the PPU's registers and memory -/

/-- The vectors' PPU: the reset state. -/
def testPpu : Ppu := Ppu.powerOn (0, 0)

def testBus : State := testMachine [] [(0x123, 0x44)] testCpu

/-- TV-BUS-1, TV-BUS-3, TV-BUS-4. -/
theorem test_bus :
    (memRead 0x1923 testBus).1 = 0x44 ∧ (memRead 0x5000 testBus).1 = 0x00 ∧ memWrite 0x8000 0x12 testBus = testBus := by
  decide

/-- TV-BUS-2, TV-PPU-8: STATUS, its latch and the toggle. -/
theorem test_status_read :
    (let s := { testBus with ppu := { testPpu with status := 0xA0, dataBuffer := 0x03, w := true } }
     ((memRead 0x3FFA s).1, (memRead 0x3FFA s).2.ppu.status, (memRead 0x3FFA s).2.ppu.w) = (0xA3, 0x20, false)) ∧
    (let p := { testPpu with status := 0xE0, dataBuffer := 0x1F, w := true }
     (ppuRegValue none 2 p, (ppuRegReadEffect none 2 p).status, (ppuRegReadEffect none 2 p).w) = (0xFF, 0x60, false)) := by
  decide

/-- TV-PPU-1 to TV-PPU-4. -/
theorem test_ctrl_and_scroll :
    let p1 := ppuRegWrite none 5 0x7D testPpu
    let p2 := ppuRegWrite none 5 0x5E p1
    (ppuRegWrite none 0 0x03 testPpu).t = 0x0C00 ∧ (p1.fineX, p1.t, p1.w) = (5, 0x000F, true) ∧
    (p2.t, p2.w) = (0x616F, false) ∧ (ppuRegWrite none 0 0x03 p2).t = 0x6D6F := by decide

/-- TV-PPU-5 to TV-PPU-7. -/
theorem test_addr :
    let p1 := ppuRegWrite none 6 0x3F testPpu
    let p2 := ppuRegWrite none 6 0x10 p1
    (p1.t, p1.v, p1.w) = (0x3F00, 0x0000, true) ∧ (p2.t, p2.v, p2.w) = (0x3F10, 0x3F10, false) ∧
    (ppuRegWrite none 6 0xFF { testPpu with t := 0x00AB }).t = 0x3FAB := by decide

/-- TV-PPU-9 to TV-PPU-11: the buffered read and the palette's immediate one. -/
theorem test_data_read :
    let cart := testBus.cart
    let p := { testPpu with v := 0x2000, nt := [(0, 0xAA), (1, 0x00)], pal := [(0, 0x0F)], dataBuffer := 0x11 }
    let p1 := ppuRegReadEffect cart 7 p
    let p2 := ppuRegReadEffect cart 7 { p1 with v := 0x3F00 }
    (ppuRegValue cart 7 p, p1.dataBuffer, p1.v) = (0x11, 0xAA, 0x2001) ∧
    (ppuRegValue cart 7 { p1 with v := 0x3F00 }, p2.dataBuffer, p2.v) = (0x0F, 0x0F, 0x3F01) ∧
    ppuRegValue cart 7 { p2 with v := 0x2001 } = 0x0F := by decide

/-- TV-PPU-12, TV-PPU-14, TV-PPU-15. -/
theorem test_data_write :
    let cart := testBus.cart
    let p1 := ppuRegWrite cart 7 0x12 { testPpu with ctrl := 0x04, v := 0x2000, nt := [(0, 0xAA)] }
    let p2 := ppuRegWrite cart 7 0x01 { testPpu with v := 0xFFFF }
    let p3 := ppuRegWrite cart 7 0x21 { testPpu with v := 0x3F10 }
    p1.v = 0x2020 ∧ p2.v = 0x0000 ∧ p3.v = 0x3F11 := by decide

/-- TV-PM-1 to TV-PM-4. -/
theorem test_ppu_map :
    [0x3F10, 0x3F14, 0x3F18, 0x3F1C, 0x3F04, 0x3F11, 0x3F24, 0x3F3F].map paletteIndex =
      [0x00, 0x04, 0x08, 0x0C, 0x04, 0x11, 0x04, 0x1F] ∧
    [0x2000, 0x2400, 0x2800, 0x2C00, 0x3000, 0x3EFF].map (nametableOf testBus.cart) = [0, 1, 0, 1, 0, 1] ∧
    [0x2000, 0x2400, 0x2800, 0x2C00, 0x3000, 0x3EFF].map
      (nametableOf (testBus.cart.map fun c => { c with mirroring := .horizontal })) = [0, 0, 1, 1, 0, 1] := by decide

/-! ### The pixel pipeline -/

/-- The reset PPU with rendering enabled. -/
def rendering : Ppu := { testPpu with mask := 0x18 }

/-- TV-PIPE-1 to TV-PIPE-8. -/
theorem test_increment_scroll :
    [0x0005, 0x001F, 0x041F].map (fun v => (incrementScrollX { rendering with v := v }).v) = [0x0006, 0x0400, 0x0000] ∧
    (incrementScrollX { testPpu with v := 0x001F }).v = 0x001F ∧
    [0x3000, 0x73A0, 0x7BE0, 0x73C0].map (fun v => (incrementScrollY { rendering with v := v }).v) =
      [0x4000, 0x0800, 0x0800, 0x03E0] := by decide

/-- TV-PIPE-9, TV-PIPE-10. -/
theorem test_transfer :
    (transferX { rendering with v := 0x7BE0, t := 0x041F }).v = 0x7FFF ∧
    (transferY { rendering with v := 0x001F, t := 0x7BE0 }).v = 0x7BFF := by decide

/-- TV-PIPE-11 to TV-PIPE-13. -/
theorem test_background_fetch :
    attributeAddr 0x0525 = 0x27D1 ∧
    [0x0000, 0x0002, 0x0040, 0x0042].map (fun v => attributeQuadrant v 0xE4) = [0, 1, 2, 3] ∧
    bgPatternAddr { testPpu with ctrl := 0x10, nextId := 0x42, v := 0x3000 } = 0x1423 := by decide

/-- TV-PIPE-14 to TV-PIPE-17. -/
theorem test_sprite_fetch :
    spritePatternAddr false false 2 0x05 0x00 = 0x0052 ∧ spritePatternAddr false false 2 0x05 0x80 = 0x0055 ∧
    spritePatternAddr true false 3 0x05 0x00 = 0x1043 ∧ spritePatternAddr true false 10 0x05 0x00 = 0x1052 ∧
    spritePatternAddr true false 3 0x05 0x80 = 0x1054 ∧ spritePatternAddr true false 10 0x05 0x80 = 0x1045 ∧
    [0x01, 0xC4, 0xF0, 0xA5].map rev8 = [0x80, 0x23, 0x0F, 0xA5] := by decide

/-- TV-PIPE-18, TV-PIPE-19. -/
theorem test_background_pixel :
    bgPixel { rendering with bgPatHi := 0x8000 } = 2 ∧
    (let p := { rendering with fineX := 3, bgPatLo := 0x1000, bgAttrLo := 0x1000, bgAttrHi := 0x1000 }
     (bgPixel p, bgPalette p) = (1, 3)) := by decide

/-- A sprite unit at x = 0 whose pixel is 2, with this attribute. -/
def unitTwo (attr : Byte) : SpriteUnit := { SpriteUnit.zero with attr := attr, patHi := 0x80 }

/-- A background pixel 1 under a sprite pixel 2 with this attribute. -/
def combined (attr : Byte) : Ppu :=
  { rendering with bgPatLo := 0x8000, spriteCount := 1, sprites := { SpriteUnits.zero with u0 := unitTwo attr } }

/-- TV-PIPE-20 to TV-PIPE-22. -/
theorem test_combine :
    outputPixel (combined 0x00) = (4, 2) ∧ outputPixel (combined 0x20) = (0, 1) ∧ outputPixel rendering = (0, 0) := by
  decide

/-- TV-PIPE-23, TV-PIPE-24. -/
theorem test_sprite_zero_hit :
    let p := { combined 0x00 with sprite0Possible := true }
    spriteZeroHits { p with cycle := 5 } = false ∧ spriteZeroHits { p with cycle := 9 } = true ∧
    spriteZeroHits { p with cycle := 1, mask := 0x1E } = true := by decide

/-- An OAM that lists the 64 y bytes only. -/
def oamYs (y : Nat → Byte) : Memory Byte := (List.range 64).map fun n => (4 * n, y n)

/-- TV-PIPE-25 to TV-PIPE-27. -/
theorem test_evaluation :
    (let q := oamEvaluate { testPpu with scanline := 10, oam := oamYs fun n => if n < 9 then 0x0A else 0xFF }
     (q.spriteCount, q.sprite0Possible, q.spriteOverflow) = (8, true, true)) ∧
    (let q := oamEvaluate { testPpu with scanline := 10, oam := oamYs fun n => [0x03, 0x02].getD n 0xFF }
     (q.spriteCount, q.sprite0Possible, q.spriteOverflow) = (1, true, false)) ∧
    (oamEvaluate { testPpu with scanline := 239, oam := oamYs fun _ => 0xFF }).spriteCount = 0 := by decide +kernel

/-- R389: the last cycle of a line, and of the frame. -/
theorem test_advance :
    (let q := advance { testPpu with scanline := 0, cycle := 340 }; (q.scanline, q.cycle, q.frameComplete) = (1, 0, false)) ∧
    (let q := advance { testPpu with scanline := 260, cycle := 340 }; (q.scanline, q.cycle, q.frameComplete) = (-1, 0, true)) := by
  decide

/-! ### NMI, DMA, the ports, the host -/

/-- TV-SRC-10: at (241, 1) with CTRL bit 7, the NMI in the same tick (P = 0x21 pushed as 0x25). -/
theorem test_nmi :
    let s := { testMachine [] [] { testCpu with p := 0x21, cycles := 3 } with
      ticks := 0, ppu := { testPpu with ctrl := 0x80, scanline := 241, cycle := 1 } }
    ((next? (step s)).map fun t =>
      (t.cpu.pc, t.cpu.sp, t.cpu.p, t.cpu.cycles, t.ppu.status, t.ppu.nmiPending)) =
      some (0xA000, 0xFA, 0x25, 8, 0x80, false) ∧
    ((next? (step s)).map fun t => [0x1FD, 0x1FC, 0x1FB].map t.ramByte) = some [0x80, 0x00, 0x25] := by decide

/-- A machine whose engine is transferring page 2. -/
def testDma (ticks : Nat) (offset data : Byte) (waiting : Bool) : State :=
  { testMachine [] [(0x2FF, 0x77)] testCpu with
    ticks := ticks
    dma := { page := 0x02, offset := offset, data := data, inProgress := true, waiting := waiting } }

/-- R351, TV-DMA-1 to TV-DMA-3: the wait ends in an odd slot only; then a read, then a write; the last write ends it. -/
theorem test_dma :
    (dmaClock (testDma 9255 0x00 0x00 true)).dma.waiting = false ∧
    (dmaClock (testDma 9264 0x00 0x00 true)).dma.waiting = true ∧
    (dmaClock (testDma 9264 0xFF 0x00 false)).dma.data = 0x77 ∧
    (let t := dmaClock (testDma 9267 0xFF 0x00 false); (t.dma.inProgress, t.dma.waiting, t.dma.offset) = (false, true, 0)) := by
  decide

/-- TV-PAD-1 to TV-PAD-3. -/
theorem test_pads :
    let s := { testBus with pads := { Pads.reset with input0 := 0x90, input1 := 0x01 } }
    let r := readTimes 10 0x4016 (memWrite 0x4016 0x55 s)
    r.1 = [1, 0, 0, 1, 0, 0, 0, 0, 0, 0] ∧
    (readTimes 9 0x4017 (memWrite 0x4017 0x00 r.2)).1 = [0, 0, 0, 0, 0, 0, 0, 1, 0] ∧
    (memWrite 0x4017 0x00 r.2).pads.shift0 = 0x00 := by decide

/-- TV-PAD-4, TV-PAD-5. -/
theorem test_controllers :
    ((next? (writeController 0 0x80 { testBus with pads := { Pads.reset with input0 := 0x10 } })).map fun t =>
      t.pads.input0) = some 0x90 ∧
    ((next? (clearController 0 { testBus with pads := { Pads.reset with input0 := 0x10, shift0 := 0x33 } })).map fun t =>
      (t.pads.input0, t.pads.shift0)) = some (0x00, 0x33) := by decide

/-- TV-SRC-1. -/
theorem test_reset :
    let s := hostReset (0, 0)
      { testBus with cart := testBus.cart.map fun c => { c with prgRom := [(0x3FFC, 0x34), (0x3FFD, 0x12)] } }
    (s.cpu.pc, s.cpu.sp, s.cpu.p, s.cpu.cycles, s.ticks, s.dma.waiting) = (0x1234, 0xFD, 0x20, 8, 0, true) := by decide

/-- R108: bit 0 of byte 6 is the mirroring, the mapper id is in the high halves of bytes 7 and 6. -/
theorem test_header :
    let c := CartridgeImage.ofHeader 0x02 0x01 0x31 0x40 [] []
    (c.mirroring, c.prgBanks, c.chrBanks, c.mapperId, c.trainer) = (.vertical, 2, 1, 0x43, false) := by decide

/-- `withFetchWord` places what the next step runs: `LDA #$80` after reset. -/
theorem test_with_fetch_word :
    ((next? (step (State.reset.withFetchWord 16 0x80A9))).map fun t => (t.cpu.a, t.cpu.p, t.cpu.pc)) =
      some (0x80, 0xA0, 0x0002) := by decide

/-! ### Witnesses: for each statement with hypotheses, inputs that meet them -/

/-- A machine with empty memories and no cartridge meets the invariant where its numbers do. -/
theorem inv_of_empty (s : State)
    (memories : s.ram = [] ∧ s.ppu.oam = [] ∧ s.ppu.nt = [] ∧ s.ppu.pal = [] ∧ s.ppu.pt = [] ∧ s.ppu.fb = [])
    (cart : s.cart = none)
    (numbers : -1 ≤ s.ppu.scanline ∧ s.ppu.scanline ≤ 260 ∧ s.ppu.cycle ≤ 340 ∧ s.ppu.spriteCount ≤ 8 ∧
      (∀ k < 5, s.ppu.status.getLsbD k = false) ∧ getFlag .b s.cpu.p = false ∧ getFlag .u s.cpu.p = true ∧
      s.cpu.cycles ≤ 8 ∧ (s.dma.inProgress = false → s.dma.waiting = true ∧ s.dma.offset = 0) ∧
      (s.dma.waiting = true → s.dma.offset = 0)) : s.Inv := by
  obtain ⟨m1, m2, m3, m4, m5, m6⟩ := memories
  obtain ⟨n1, n2, n3, n4, n5, n6, n7, n8, n9, n10⟩ := numbers
  constructor
  all_goals first
    | assumption
    | exact Nat.le_trans n8 (Nat.le_max_left _ _)
    | (intro c hc; rw [cart] at hc; cases hc)
    | (simp only [m1, m2, m3, m4, m5, m6]; exact ⟨⟨List.Pairwise.nil, by simp⟩, by simp⟩)

theorem witness_DecodeOfEncode :
    (Instr.ldaAbx 0xFFFF).wf = true ∧ (Instr.illegal 0xFF).wf = true ∧ (Instr.illegal 0x02).wf = true := by decide

theorem witness_DecodedBytesAreAnEncoding :
    decode [0xBD, 0xFF, 0xFF, 0x01] = .ok (.ldaAbx 0xFFFF, [0x01]) ∧ decode [0xFF] = .ok (.illegal 0xFF, []) := by decide

theorem witness_OpcodeTable :
    (Instr.staIzy 0xFF).wf = true ∧ (Mnemonic.sta ≠ .illegal ∧ (ModeName.izy, 0x91, 2, 6) ∈ specForms .sta) ∧
    (0xFF : Byte) ∈ illegalOpcodes := by decide

theorem witness_StepKeepsInvariant : ∃ t, State.reset.Inv ∧ step State.reset = .next t :=
  ⟨_, inv_of_empty _ (by decide) rfl (by decide), rfl⟩

/-- A three-byte instruction in PRG ROM, and a one-byte one in the last byte below the PPU's window. -/
theorem witness_StepRunsTheDecodedInstruction :
    (let s := testMachine [0xBD, 0xFF, 0x02] [] testCpu
     (s.ready = true ∧ (s.ticks + 1) % 3 = 0 ∧ s.dma.inProgress = false ∧ s.cpu.cycles = 0) ∧
     decode [s.peek s.cpu.pc, s.peek (s.cpu.pc + 1), s.peek (s.cpu.pc + 2)] = .ok (.ldaAbx 0x02FF, []) ∧
     ∀ k < (Instr.ldaAbx 0x02FF).mode.length, isMemory (s.cpu.pc + BitVec.ofNat 16 k) = true) ∧
    (let s := { State.reset with ram := [(0x7FF, 0xEA)], cpu := { testCpu with pc := 0x1FFF }, ticks := 2 }
     (s.ready = true ∧ (s.ticks + 1) % 3 = 0 ∧ s.dma.inProgress = false ∧ s.cpu.cycles = 0) ∧
     (decode [s.peek s.cpu.pc, s.peek (s.cpu.pc + 1), s.peek (s.cpu.pc + 2)]).map (·.1) = .ok .nop ∧
     ∀ k < Instr.nop.mode.length, isMemory (s.cpu.pc + BitVec.ofNat 16 k) = true) := by decide

theorem witness_StepStopsOnlyBeforeReset :
    State.reset.ready = true ∧ (State.powerOn (0, 0)).ready = false := by decide

/-- One state for each clause: no CPU slot, a count left, and a transfer that waits, reads, writes its last byte. -/
theorem witness_WaitingClock :
    (State.reset.ready = true ∧ (State.reset.ticks + 1) % 3 ≠ 0) ∧
    (let s := { State.reset with ticks := 2 }
     s.ready = true ∧ (s.ticks + 1) % 3 = 0 ∧ s.dma.inProgress = false ∧ s.cpu.cycles ≠ 0) ∧
    (∀ n ∈ [2, 5], let s := testDma n 0x00 0x00 true
      s.ready = true ∧ (s.ticks + 1) % 3 = 0 ∧ s.dma.inProgress = true ∧ s.dma.waiting = true) ∧
    (let s := testDma 5 0x00 0x00 false
     (s.ticks + 1) % 3 = 0 ∧ s.dma.inProgress = true ∧ s.dma.waiting = false ∧ (s.ticks + 1) % 2 = 0) ∧
    (let s := testDma 2 0xFF 0x77 false
     (s.ticks + 1) % 3 = 0 ∧ s.dma.inProgress = true ∧ s.dma.waiting = false ∧ (s.ticks + 1) % 2 = 1) := by decide

theorem witness_TicksAndPosition :
    State.reset.ready = true ∧ Ppu.positionOk { testPpu with scanline := -1, cycle := 0 } ∧
    Ppu.positionOk { testPpu with scanline := 260, cycle := 340 } := by unfold Ppu.positionOk; decide

theorem witness_LoadInstructions :
    (Instr.ldaIzy 0xFF).mnemonic = .lda ∧ (Instr.ldxZpy 0xFF).mnemonic = .ldx ∧ (Instr.ldyImm 0x00).mnemonic = .ldy := by
  decide

theorem witness_StoreInstructions :
    (Instr.staAbx 0x40FF).mnemonic = .sta ∧ (Instr.stxZpy 0xFF).mnemonic = .stx ∧ (Instr.styAbs 0x2007).mnemonic = .sty := by
  decide

theorem witness_TransferInstructions : ∀ i ∈ [Instr.tax, .tay, .tsx, .txa, .txs, .tya], i.wf = true := by decide

theorem witness_AddWithCarryInstructions :
    (Instr.adcIzx 0xFF).mnemonic = .adc ∧ (Instr.sbcImm 0xFF).mnemonic = .sbc := by decide

theorem witness_AdcSbcRoundTrip : { testBus with cpu := { testCpu with a := 0x10 } }.cpu.a = 0x10 := rfl

theorem witness_MemoryIncrementInstructions :
    (Instr.incAbx 0xFFFF).mnemonic = .inc ∧ (Instr.decZp0 0xFF).mnemonic = .dec := by decide

theorem witness_RegisterIncrementInstructions : ∀ i ∈ [Instr.inx, .iny, .dex, .dey], i.wf = true := by decide

theorem witness_LogicInstructions :
    (Instr.andIzy 0xFF).mnemonic = .and ∧ (Instr.oraImm 0x00).mnemonic = .ora ∧ (Instr.eorAby 0xFFFF).mnemonic = .eor := by
  decide

theorem witness_BitInstruction : (Instr.bitAbs 0x2002).mnemonic = .bit ∧ (Instr.bitZp0 0x00).mnemonic = .bit := by decide

theorem witness_AccumulatorShifts : ∀ i ∈ [Instr.aslAcc, .lsrAcc, .rolAcc, .rorAcc], i.wf = true := by decide

theorem witness_MemoryShifts :
    ∀ i ∈ [Instr.aslZp0 0xFF, .lsrAbs 0x4014, .rolAbx 0xFFFF, .rorZpx 0xFF],
      (i.mnemonic = .asl ∨ i.mnemonic = .lsr ∨ i.mnemonic = .rol ∨ i.mnemonic = .ror) ∧ i.mode ≠ .acc := by decide

/-- Every branch, at the two ends of the offset's range. -/
theorem witness_BranchInstructions :
    ∀ o ∈ [(0x7F : Byte), 0x80], ∀ i ∈ [Instr.bcc o, .bcs o, .beq o, .bmi o, .bne o, .bpl o, .bvc o, .bvs o],
      i.mode = .rel o ∧ (branchTest i.mnemonic).isSome = true := by decide

theorem witness_CompareInstructions :
    (Instr.cmpAbx 0xFFFF).mnemonic = .cmp ∧ (Instr.cpxZp0 0xFF).mnemonic = .cpx ∧ (Instr.cpyImm 0x00).mnemonic = .cpy := by
  decide

theorem witness_CallThenReturn : testBus.ram.wf zeroByte := by decide

theorem witness_BreakThenReturn : { testBus with cpu := { testCpu with sp := 0x00 } }.ram.wf zeroByte := by decide

theorem witness_PushInstructions : ∀ i ∈ [Instr.pha, .php], i = .pha ∨ i = .php := by decide

theorem witness_PullInstructions : ∀ i ∈ [Instr.pla, .plp], i = .pla ∨ i = .plp := by decide

theorem witness_PushPullStatus :
    testBus.ram.wf zeroByte ∧ getFlag .b testBus.cpu.p = false ∧ getFlag .u testBus.cpu.p = true := by decide

theorem witness_StackPrimitives : { testBus with cpu := { testCpu with sp := 0x00 } }.ram.wf zeroByte := by decide

theorem witness_FlagInstructions :
    ∀ i ∈ [Instr.clc, .sec, .cld, .sed, .cli, .sei, .clv], (flagWritten i).isSome = true := by decide

theorem witness_NopAndIllegalStub :
    Instr.nop.mnemonic = .nop ∧ (Instr.illegal 0xFF).mnemonic = .illegal ∧ (Instr.illegal 0xFF).wf = true := by decide

theorem witness_AddressingModes :
    modeName (.rel 0x80) = .rel ∧ modeName (.ind 0x02FF) = .ind ∧ modeName .acc = .acc ∧ modeName (.imm 0xFF) = .imm ∧
    (∀ m ∈ [Mode.abx 0xFFFF, .aby 0xFFFF, .izy 0xFF],
      modeName m ≠ .rel ∧ modeName m ≠ .ind ∧ modeName m ∉ [.acc, .imm]) ∧
    ∀ m ∈ [Mode.imp, .zp0 0xFF, .zpx 0xFF, .zpy 0xFF, .abs 0xFFFF, .izx 0xFF, .ind 0x02FF, .rel 0x80],
      modeName m ∉ [.abx, .aby, .izy] := by decide

/-- Each clause at the ends of its range. -/
theorem witness_ReadDecode :
    (∀ a ∈ [(0x0000 : Word), 0x1FFF], a.toNat ≤ 0x1FFF) ∧
    (∀ a ∈ [(0x2000 : Word), 0x3FFF], 0x2000 ≤ a.toNat ∧ a.toNat ≤ 0x3FFF) ∧
    (∀ a ∈ [(0x4000 : Word), 0x4015, 0x4018, 0x7FFF], 0x4000 ≤ a.toNat ∧ a.toNat ≤ 0x7FFF ∧ a ≠ 0x4016 ∧ a ≠ 0x4017) ∧
    (∀ a ∈ [(0x8000 : Word), 0xFFFF], 0x8000 ≤ a.toNat) ∧ State.reset.cart = none ∧ testBus.cart.isSome = true :=
  ⟨by simp, by simp, by simp, by simp, rfl, rfl⟩

theorem witness_WriteDecode :
    (∀ a ∈ [(0x0000 : Word), 0x1FFF], a.toNat ≤ 0x1FFF) ∧
    (∀ a ∈ [(0x2000 : Word), 0x3FFF], 0x2000 ≤ a.toNat ∧ a.toNat ≤ 0x3FFF) ∧
    ∀ a ∈ [(0x4000 : Word), 0x4013, 0x4015, 0x4018, 0x8000, 0xFFFF],
      0x4000 ≤ a.toNat ∧ a ≠ 0x4014 ∧ a ≠ 0x4016 ∧ a ≠ 0x4017 := by simp

theorem witness_Mirrors :
    (testBus.ram.wf zeroByte ∧ (0x07FF : Word).toNat ≤ 0x1FFF ∧ (0x1FFF : Word).toNat ≤ 0x1FFF ∧
      (0x07FF : Word) &&& 0x07FF = 0x1FFF &&& 0x07FF) ∧
    ((0x2007 : Word) &&& 7 = 0x3FFF &&& 7 ∧ 0x2000 ≤ (0x2007 : Word).toNat ∧ (0x2007 : Word).toNat ≤ 0x3FFF ∧
      0x2000 ≤ (0x3FFF : Word).toNat ∧ (0x3FFF : Word).toNat ≤ 0x3FFF) := by decide

theorem witness_ReadsChangeNoMemory :
    ∀ a ∈ [(0x1FFF : Word), 0x4000, 0xFFFF],
      ¬ (0x2000 ≤ a.toNat ∧ a.toNat ≤ 0x3FFF) ∧ a ≠ 0x4016 ∧ a ≠ 0x4017 := by simp

theorem witness_PpuRegisterWrites : testPpu.w = false ∧ { testPpu with w := true }.w = true := by decide

/-- The last address below 0x2000, the ends of the nametable and palette ranges, and an alias of each. -/
theorem witness_PpuMemoryReadsBack :
    (testPpu.nt.wf Config.vramInit ∧ testPpu.pal.wf Config.paletteInit) ∧
    (∀ a ∈ [(0x2000 : Word), 0x3EFF, 0x3F00, 0x3F10, 0x3FFF, 0xFFFF], 0x2000 ≤ a.toNat % 0x4000) ∧
    ∀ a ∈ [(0x0000 : Word), 0x1FFF, 0x4000, 0x5FFF], a.toNat % 0x4000 < 0x2000 := by
  exact ⟨⟨⟨List.Pairwise.nil, by simp [testPpu, Ppu.powerOn]⟩, List.Pairwise.nil, by simp [testPpu, Ppu.powerOn]⟩,
    by simp, by simp⟩

/-- The place where the latch is raised, in a tick that is no CPU slot and in one that is. -/
theorem witness_NmiLatch :
    ∀ n ∈ [0, 2],
      let s := { State.reset with ticks := n, ppu := { testPpu with ctrl := 0x80, scanline := 241, cycle := 1 } }
      s.ready = true ∧ (ppuPhase s).ppu.nmiPending = true ∧ (next? (step s)).isSome = true := by
  decide

/-- The corners of the frame, and the places of its events. -/
theorem witness_FrameEvents :
    ∀ pos ∈ [((-1 : Int), 0), (-1, 1), (241, 1), (0, 340), (260, 340)],
      Ppu.positionOk { testPpu with scanline := pos.1, cycle := pos.2 } := by unfold Ppu.positionOk; decide

theorem witness_ScrollUpdates : testPpu.renderingEnabled = false ∧ rendering.renderingEnabled = true := by decide

/-- The eighth and last of the sprites taken. -/
theorem witness_SpriteEvaluation :
    let p := { testPpu with scanline := 10, oam := oamYs fun n => if n < 9 then 0x0A else 0xFF }
    let rows : Int := if p.ctrl.getLsbD 5 then 16 else 8
    let y := fun n => ((p.oamByte (BitVec.ofNat 8 (4 * n))).toNat : Int)
    7 < 8 ∧ ((List.range 64).filter fun n => decide (0 ≤ p.scanline - y n ∧ p.scanline - y n < rows))[7]? = some 7 := by
  decide +kernel

theorem witness_PpuRegisterReads :
    ∀ a ∈ [(0x2000 : Word), 0x3FFF], 0x2000 ≤ a.toNat ∧ a.toNat ≤ 0x3FFF := by simp

theorem witness_ShifterUpdate :
    testPpu.sprites.toList[0]? = some SpriteUnit.zero ∧ testPpu.sprites.toList[7]? = some SpriteUnit.zero := by decide

theorem witness_SpritePatterns :
    0 < 8 ∧ 7 < 8 ∧ 15 < 16 ∧ testPpu.sprites.toList[0]? = some SpriteUnit.zero ∧
    testPpu.sprites.toList[7]? = some SpriteUnit.zero := by decide

/-- The first and the last unit as the one found, and the first and the last pixel of the picture. -/
theorem witness_VisiblePixel :
    fgSprite (combined 0x00) = some (0, unitTwo 0x00) ∧
    fgSprite { rendering with spriteCount := 8, sprites := { SpriteUnits.zero with u7 := unitTwo 0x20 } } =
      some (7, unitTwo 0x20) ∧
    (fgSprite rendering = none ∧ rendering.mask.getLsbD 4 = true ∧ 7 < { rendering with spriteCount := 8 }.spriteCount) ∧
    testPpu.fb.wf Config.frameBufferInit ∧
    (let p := { testPpu with scanline := 0, cycle := 1 }
     0 < 240 ∧ 0 < 256 ∧ p.scanline = ((0 : Nat) : Int) ∧ p.cycle = 0 + 1) ∧
    (let p := { testPpu with scanline := 239, cycle := 256 }
     239 < 240 ∧ 255 < 256 ∧ p.scanline = ((239 : Nat) : Int) ∧ p.cycle = 255 + 1) :=
  ⟨by decide, by decide, by decide, ⟨List.Pairwise.nil, by simp [testPpu, Ppu.powerOn]⟩, by decide, by decide⟩

/-- A transfer just started, on an odd and on an even tick, of any page; for the last clause the ends of its ranges. -/
theorem witness_DmaTransfer :
    (∀ n ∈ [3, 6], ∀ page : Byte,
      let s := { State.reset with ticks := n, dma := { Dma.reset with page := page, inProgress := true } }
      s.Inv ∧ s.ready = true ∧ s.ticks % 3 = 0 ∧ s.dma.offset = 0 ∧ s.dma.inProgress = true ∧ s.dma.waiting = true ∧
        s.ppu.enableNmi = false ∧ s.ppu.nmiPending = false) ∧
    ∀ page ∈ [(0x00 : Byte), 0x1F, 0x41, 0xFF], page.toNat < 0x20 ∨ 0x41 ≤ page.toNat := by
  refine ⟨fun n hn page => ?_, by decide⟩
  have same : -1 ≤ State.reset.ppu.scanline ∧ State.reset.ppu.scanline ≤ 260 ∧ State.reset.ppu.cycle ≤ 340 ∧
      State.reset.ppu.spriteCount ≤ 8 ∧ (∀ k < 5, State.reset.ppu.status.getLsbD k = false) ∧
      getFlag .b State.reset.cpu.p = false ∧ getFlag .u State.reset.cpu.p = true ∧ State.reset.cpu.cycles ≤ 8 := by decide
  obtain ⟨h1, h2, h3, h4, h5, h6, h7, h8⟩ := same
  refine ⟨inv_of_empty _ ⟨rfl, rfl, rfl, rfl, rfl, rfl⟩ rfl
    ⟨h1, h2, h3, h4, h5, h6, h7, h8, fun h => Bool.noConfusion h, fun _ => rfl⟩, rfl, ?_, rfl, rfl, rfl,
    (by decide : State.reset.ppu.enableNmi = false), rfl⟩
  exact (by decide : ∀ n ∈ [3, 6], n % 3 = 0) n hn

/-- An image of each PRG size that is accepted, one for each refusal, and an index that is none. -/
theorem witness_HostFunctions :
    (∀ n ∈ [1, 2],
      let c := CartridgeImage.mk .vertical n 1 0 false (List.replicate (0x4000 * n) 0) (List.replicate 0x2000 0)
      c.mapperId = 0 ∧ (c.mirroring = .horizontal ∨ c.mirroring = .vertical) ∧ (c.prgBanks = 1 ∨ c.prgBanks = 2) ∧
        c.chrBanks = 1 ∧ c.prgRom.length = 0x4000 * c.prgBanks ∧ c.chrRom.length = 0x2000 * c.chrBanks) ∧
    (CartridgeImage.ofHeader 0x02 0x01 0x31 0x40 [] []).mapperId ≠ 0 ∧
    ¬ (MirroringMode.onescreenLo = .horizontal ∨ MirroringMode.onescreenLo = .vertical) ∧
    ¬ (3 = 1 ∨ 3 = 2) ∧ ¬ (0 = 1 ∨ 0 = 2) ∧ 0 ≠ 1 ∧ 2 ≠ 1 ∧ ([] : List Byte).length ≠ 0x4000 * 1 ∧ 2 ≤ 2 := by
  refine ⟨fun n hn => ?_, by decide⟩
  have : n = 1 ∨ n = 2 := by simpa using hn
  exact ⟨rfl, .inr rfl, this, rfl, List.length_replicate, List.length_replicate⟩

/-- One tick before the end of the frame, with no count left; and a reset machine on the frame. -/
theorem witness_DoFrame :
    (∃ t, doFrame 1 { State.reset with cpu := testCpu, ppu := { testPpu with scanline := 260, cycle := 340 } } =
      some (.next t)) ∧ State.reset.ready = true ∧ State.reset.ppu.positionOk :=
  ⟨⟨_, rfl⟩, rfl, by unfold Ppu.positionOk; decide⟩

end Sys2Proof.Tests
end

section
/-! The invariant: one predicate for each part of it, what every bus access, operation and PPU action keeps of them,
then the phases of the master tick; the state after reset; the stack. -/

namespace Sys2Proof.Machine

/-! ### The size of the PPU's memories -/

/-- A write inside the size keeps a memory canonical and inside its size. -/
theorem Memory.write_sound {α : Type} [DecidableEq α] {dflt : Nat → α} {size : Nat} {m : Memory α}
    (h : m.sound dflt size) {a : Nat} (ha : a < size) (v : α) : (m.write dflt a v).sound dflt size :=
  ⟨Memory.write_wf dflt h.1 a v, Memory.write_below dflt h.2 ha v⟩

/-- A memory with nothing listed is canonical, whatever its size. -/
theorem Memory.nil_sound {α : Type} {dflt : Nat → α} {size : Nat} : Memory.sound dflt size [] :=
  ⟨⟨.nil, fun _ hp => nomatch hp⟩, fun _ hp => nomatch hp⟩

theorem nametableOf_le (cart : Option Cartridge) (a : Nat) : nametableOf cart a ≤ 1 := by
  have quadrant : ∀ q < 4, [0, 1, 0, 1].getD q 0 ≤ 1 ∧ [0, 0, 1, 1].getD q 0 ≤ 1 := by decide
  obtain ⟨vertical, horizontal⟩ := quadrant (a % 0x1000 / 0x400) (by omega)
  unfold nametableOf
  split
  · split
    · exact vertical
    · exact horizontal
  · exact Bool.toNat_le _

theorem nametableKey_lt (cart : Option Cartridge) (a : Nat) : nametableKey cart a < 0x800 := by
  have := nametableOf_le cart a
  unfold nametableKey
  omega

theorem paletteIndex_lt (a : Nat) : paletteIndex a < 0x20 := by
  unfold paletteIndex
  dsimp only
  split <;> omega

/-- The pixel of a visible position is inside the frame buffer (R57, R393). -/
theorem pixelKey_lt {p : Ppu} (visible : p.atVisiblePixel = true) :
    pixelKey p.scanline.toNat (p.cycle - 1) < 61440 := by
  simp only [Ppu.atVisiblePixel, Ppu.onVisibleLine, Bool.and_eq_true, decide_eq_true_eq] at visible
  unfold pixelKey
  omega

/-! ### The PPU's part of the invariant -/

/-- The clauses of `State.Inv` about the PPU. -/
structure Ppu.Sound (p : Ppu) : Prop where
  oam         : p.oam.sound Config.oamInit 0x100
  nametables  : p.nt.sound Config.vramInit 0x800
  palette     : p.pal.sound Config.paletteInit 0x20
  patterns    : p.pt.sound Config.patternInit 0x2000
  frameBuffer : p.fb.sound Config.frameBufferInit 61440
  position    : p.positionOk
  spriteCount : p.spriteCount ≤ 8
  statusLow   : ∀ k < 5, p.status.getLsbD k = false

section
variable {p : Ppu} (h : p.Sound)
include h

/-- Writing one of the three STATUS flags leaves the unwritten bits zero. -/
theorem setStatusBit_sound {k : Nat} (hk : 5 ≤ k ∧ k < 8) (b : Bool) :
    Ppu.Sound { p with status := setBit k b p.status } :=
  { h with statusLow := fun j hj => ((tagFrame_setStatus p hk b).statusLow j hj).trans (h.statusLow j hj) }

theorem setOamByte_sound (a d : Byte) : (p.setOamByte a d).Sound :=
  { h with oam := Memory.write_sound h.oam a.isLt d }

theorem ppuWrite_sound (cart : Option Cartridge) (addr : Word) (d : Byte) : (ppuWrite cart addr d p).Sound := by
  unfold ppuWrite
  dsimp only
  split
  · exact { h with patterns := Memory.write_sound h.patterns (by omega) d }
  · split
    · exact { h with nametables := Memory.write_sound h.nametables (nametableKey_lt cart _) d }
    · exact { h with palette := Memory.write_sound h.palette (paletteIndex_lt _) d }

theorem ppuScrollWrite_sound (d : Byte) : (ppuScrollWrite d p).Sound := by
  unfold ppuScrollWrite
  split <;> exact { h with }

theorem ppuAddrWrite_sound (d : Byte) : (ppuAddrWrite d p).Sound := by
  unfold ppuAddrWrite
  split <;> exact { h with }

/-- A write of any register of the window keeps the PPU sound. -/
theorem ppuRegWrite_sound (cart : Option Cartridge) (r : BitVec 3) (d : Byte) : (ppuRegWrite cart r d p).Sound := by
  unfold ppuRegWrite
  split
  · exact { h with }
  · exact { h with }
  · exact h
  · exact { h with }
  · exact setOamByte_sound h _ d
  · exact ppuScrollWrite_sound h d
  · exact ppuAddrWrite_sound h d
  · exact { ppuWrite_sound h cart p.v d with }

/-- A read of any register of the window keeps the PPU sound. -/
theorem ppuRegReadEffect_sound (cart : Option Cartridge) (r : BitVec 3) : (ppuRegReadEffect cart r p).Sound := by
  unfold ppuRegReadEffect
  split
  · exact { setStatusBit_sound h (k := 7) (by decide) false with }
  · exact { h with }
  · exact h

theorem tagActions_sound (cart : Option Cartridge) : (tagActions cart p).Sound := by
  have frame := tagFrame_tagActions cart p
  constructor
  case oam => rw [frame.oam]; exact h.oam
  case nametables => rw [frame.nt]; exact h.nametables
  case palette => rw [frame.pal]; exact h.palette
  case patterns => rw [frame.pt]; exact h.patterns
  case frameBuffer => rw [frame.fb]; exact h.frameBuffer
  case position => rw [Ppu.positionOk, frame.scanline, frame.cycle]; exact h.position
  case spriteCount => exact tagActions_spriteCount cart h.spriteCount
  case statusLow => exact fun k hk => (frame.statusLow k hk).trans (h.statusLow k hk)

theorem composePixel_sound (visible : p.atVisiblePixel = true) (cart : Option Cartridge) :
    (composePixel cart p).Sound := by
  have latched : Ppu.Sound { p with status := if spriteZeroHits p then setBit 6 true p.status else p.status } := by
    split
    · exact setStatusBit_sound h (by decide) true
    · exact h
  exact { latched with frameBuffer := Memory.write_sound h.frameBuffer (pixelKey_lt visible) _ }

/-- The advance stays on the frame (R389) and moves nothing but the position. -/
theorem advance_sound : (advance p).Sound := by
  obtain ⟨low, high, cycle⟩ := h.position
  unfold advance
  split
  · split
    · exact { h with position := by dsimp only [Ppu.positionOk]; omega }
    · exact { h with position := by dsimp only [Ppu.positionOk]; omega }
  · exact { h with position := by dsimp only [Ppu.positionOk]; omega }

theorem ppuClock_sound (cart : Option Cartridge) : (ppuClock cart p).Sound := by
  refine advance_sound ?_
  unfold whenTag
  split
  · next visible => exact composePixel_sound (tagActions_sound h cart) visible cart
  · exact tagActions_sound h cart

end

/-! ### The parts of the invariant -/

/-- The clauses of `State.Inv` about the DMA engine. -/
structure Dma.Sound (e : Dma) : Prop where
  idle    : e.inProgress = false → e.waiting = true ∧ e.offset = 0
  waiting : e.waiting = true → e.offset = 0

/-- The clauses of `State.Inv` about a cartridge. -/
structure Cartridge.Sound (c : Cartridge) : Prop where
  prgRom : c.prgRom.sound zeroByte c.prgBanks.bytes
  chrRom : c.chrRom.sound zeroByte c.chrBanks.bytes

/-- The clauses of `State.Inv` about everything outside the CPU. -/
structure State.DevicesSound (s : State) : Prop where
  ram  : s.ram.sound zeroByte 0x800
  ppu  : s.ppu.Sound
  dma  : s.dma.Sound
  cart : ∀ c, s.cart = some c → c.Sound

/-- The clauses of `State.Inv` about the CPU. They hold between instructions only: RTI clears U, and the dispatch sets
it again after it (R40, R294). -/
structure Cpu.Sound (c : Cpu) : Prop where
  flagB  : getFlag .b c.p = false
  flagU  : getFlag .u c.p = true
  cycles : c.cycles ≤ max 8 Config.illegalOpcodeClocks

theorem State.inv_iff (s : State) : s.Inv ↔ s.DevicesSound ∧ s.cpu.Sound := by
  constructor
  · intro h
    exact ⟨⟨h.ram,
      ⟨h.oam, h.nametables, h.palette, h.patterns, h.frameBuffer, ⟨h.scanlineLow, h.scanlineHigh, h.cycle⟩,
        h.spriteCount, h.statusLow⟩,
      ⟨h.dmaIdle, h.dmaWaiting⟩, fun c hc => ⟨h.prgRom c hc, h.chrRom c hc⟩⟩, ⟨h.flagB, h.flagU, h.cycles⟩⟩
  · rintro ⟨⟨ram, ppu, dma, cart⟩, ⟨flagB, flagU, cycles⟩⟩
    obtain ⟨low, high, cycle⟩ := ppu.position
    exact
      { ram, oam := ppu.oam, nametables := ppu.nametables, palette := ppu.palette, patterns := ppu.patterns
        frameBuffer := ppu.frameBuffer, prgRom := fun c hc => (cart c hc).prgRom
        chrRom := fun c hc => (cart c hc).chrRom, scanlineLow := low, scanlineHigh := high, cycle
        spriteCount := ppu.spriteCount, statusLow := ppu.statusLow, flagB, flagU, cycles
        dmaIdle := dma.idle, dmaWaiting := dma.waiting }

/-! ### Bus accesses and what the dispatch does outside the CPU -/

section
variable {s : State} (h : s.DevicesSound)
include h

theorem setCpu_devices (c : Cpu) : State.DevicesSound { s with cpu := c } := { h with }

theorem OutsideCpuSame.devices {t : State} (same : OutsideCpuSame s t) : t.DevicesSound :=
  ⟨same.ram ▸ h.ram, same.ppu ▸ h.ppu, same.dma ▸ h.dma, same.cart ▸ h.cart⟩

theorem setRamByte_devices (a : Word) (d : Byte) : (s.setRamByte a d).DevicesSound :=
  { h with ram := Memory.write_sound h.ram (Nat.mod_lt _ (by decide)) d }

theorem dmaStart_devices (d : Byte) : State.DevicesSound { s with dma := dmaStart d s.dma } :=
  { h with dma := ⟨Bool.noConfusion, fun _ => rfl⟩ }

theorem memRead_devices (a : Word) : (memRead a s).2.DevicesSound := by
  unfold memRead cpuRead
  split
  · exact h
  · split
    · exact h
    · split
      · exact { h with ppu := ppuRegReadEffect_sound h.ppu _ _ }
      · split
        · exact { h with }
        · exact h

theorem memWrite_devices (a : Word) (d : Byte) : (memWrite a d s).DevicesSound := by
  unfold memWrite
  split
  · exact setRamByte_devices h a d
  · split
    · exact { h with ppu := ppuRegWrite_sound h.ppu _ _ d }
    · split
      · exact dmaStart_devices h d
      · split
        · exact { h with }
        · exact h

theorem memRead16_devices (a b : Word) : (memRead16 a b s).2.DevicesSound :=
  memRead_devices (memRead_devices h a) b

theorem push_devices (d : Byte) : (push d s).DevicesSound := setCpu_devices (memWrite_devices h _ d) _

theorem pushWord_devices (w : Word) : (pushWord w s).DevicesSound := push_devices (push_devices h _) _

theorem pop_devices : (pop s).2.DevicesSound := memRead_devices (setCpu_devices h _) _

theorem popWord_devices : (popWord s).2.DevicesSound := pop_devices (pop_devices h)

theorem takeInterrupt_devices (pushed entry : Byte) (vector : Word) :
    (takeInterrupt pushed entry vector s).DevicesSound :=
  setCpu_devices (memRead16_devices (setCpu_devices (push_devices (pushWord_devices h _) pushed) _) _ _) _

theorem returnFromInterrupt_devices : (returnFromInterrupt s).DevicesSound :=
  setCpu_devices (popWord_devices (setCpu_devices (pop_devices h) _)) _

theorem operand_devices (m : Mode) : (operand m s).2.DevicesSound := by
  cases m with
  | acc | imm => exact h
  | _ => exact memRead_devices h _

theorem writeback_devices (m : Mode) (r : Byte) : (writeback m r s).DevicesSound := by
  by_cases acc : m = .acc
  · rw [acc]; exact setCpu_devices h _
  · rw [writeback_memory s acc]; exact memWrite_devices h _ r

theorem resolve_devices (m : Mode) : (resolve m s).DevicesSound := by
  cases m with
  | ind | izx | izy => exact setCpu_devices (memRead16_devices h _ _) _
  | _ => exact setCpu_devices h _

theorem prepare_devices (i : Instr) : (prepare i s).DevicesSound := resolve_devices (setCpu_devices h _) i.mode

theorem fetch_devices : (fetch s).2.DevicesSound := by
  have opcode := memRead_devices h s.cpu.pc
  have low := memRead_devices opcode (s.cpu.pc + 1)
  unfold fetch
  dsimp only
  split
  · exact opcode
  · exact low
  · exact memRead_devices low (s.cpu.pc + 2)

theorem branch_devices (taken : Bool) : (branch taken s).DevicesSound := by
  cases taken with
  | false => exact h
  | true => exact setCpu_devices h _

/-- No operation breaks anything outside the CPU. -/
theorem operation_devices (n : Mnemonic) (m : Mode) : (Mnemonic.operation n m s).DevicesSound := by
  cases n with
  | lda | ldx | ldy | adc | sbc | and | ora | eor | bit | cmp | cpx | cpy =>
    exact setCpu_devices (operand_devices h m) _
  | sta | stx | sty => exact memWrite_devices h _ _
  | inc | dec | asl | lsr | rol | ror => exact setCpu_devices (writeback_devices (operand_devices h m) m _) _
  | bcc | bcs | beq | bmi | bne | bpl | bvc | bvs => exact branch_devices h _
  | jsr => exact setCpu_devices (pushWord_devices h _) _
  | rts => exact setCpu_devices (popWord_devices h) _
  | brk => exact takeInterrupt_devices (setCpu_devices h _) _ _ _
  | rti => exact returnFromInterrupt_devices h
  | pha | php => exact push_devices h _
  | pla | plp => exact setCpu_devices (pop_devices h) _
  | nop | illegal => exact h
  | _ => exact setCpu_devices h _

end

/-! ### What an operation does to B and to the count -/

section
variable (s : State) (m : Mode)

@[simp] theorem push_cpu (d : Byte) : (push d s).cpu = { s.cpu with sp := s.cpu.sp - 1 } := by
  rw [push_eq]; rfl

@[simp] theorem pop_cpu : (pop s).2.cpu = { s.cpu with sp := s.cpu.sp + 1 } := by
  rw [pop_eq]; rfl

@[simp] theorem pushWord_p (w : Word) : (pushWord w s).cpu.p = s.cpu.p := by simp [pushWord]
@[simp] theorem pushWord_cycles (w : Word) : (pushWord w s).cpu.cycles = s.cpu.cycles := by simp [pushWord]
@[simp] theorem popWord_p : (popWord s).2.cpu.p = s.cpu.p := by simp [popWord]
@[simp] theorem popWord_cycles : (popWord s).2.cpu.cycles = s.cpu.cycles := by simp [popWord]

@[simp] theorem writeback_p (r : Byte) : (writeback m r s).cpu.p = s.cpu.p := by
  rw [writeback_cpu]; split <;> rfl

@[simp] theorem writeback_cycles (r : Byte) : (writeback m r s).cpu.cycles = s.cpu.cycles := by
  rw [writeback_cpu]; split <;> rfl

/-- PLP's mask clears B whatever was pulled (R303). -/
theorem flagB_pulled (d : Byte) : getFlag .b ((d &&& 0xCF) ||| 0x20) = false := by
  simp [getFlag, Flag.bit]

theorem branch_p (taken : Bool) : (branch taken s).cpu.p = s.cpu.p := by cases taken <;> rfl

/-- A taken branch costs one clock more, or two into another page (R270). -/
theorem branch_cycles_le (taken : Bool) : (branch taken s).cpu.cycles ≤ s.cpu.cycles + 2 := by
  cases taken with
  | false => exact Nat.le_add_right _ 2
  | true =>
    rw [branch_taken, setPc_cycles, setCycles_cycles]
    split <;> omega

/-- The mnemonics that test a flag run the branch procedure. -/
theorem operation_branch {n : Mnemonic} (h : (branchTest n).isSome = true) :
    ∃ taken, Mnemonic.operation n m s = branch taken s := by
  cases n with
  | bcc | bcs | beq | bmi | bne | bpl | bvc | bvs => exact ⟨_, rfl⟩
  | _ => exact Bool.noConfusion h

/-- An operation other than a branch keeps B clear, since BRK and the pulls clear it and the others do not write it
(R39), and it keeps the count. -/
theorem operation_flagB_cycles {n : Mnemonic} (h : branchTest n = none) (hb : getFlag .b s.cpu.p = false) :
    getFlag .b (Mnemonic.operation n m s).cpu.p = false ∧ (Mnemonic.operation n m s).cpu.cycles = s.cpu.cycles := by
  cases n with
  | bcc | bcs | beq | bmi | bne | bpl | bvc | bvs => exact absurd h (by decide)
  | plp => exact ⟨flagB_pulled _, by simp [Mnemonic.operation, opPlp]⟩
  | rti => simp [Mnemonic.operation, opRti, returnFromInterrupt_eq]
  | brk => simp [Mnemonic.operation, opBrk, takeBreak_eq, brkStatus]
  | pha | php | pla => simp [Mnemonic.operation, opPha, opPhp, opPla, hb]
  | jmp | jsr | rts => simp [Mnemonic.operation, opJmp, opJsr, opRts, hb]
  | lda | ldx | ldy => simp [Mnemonic.operation, opLda, opLdx, opLdy, hb]
  | sta | stx | sty => simp [Mnemonic.operation, opSta, opStx, opSty, hb]
  | tax | tay | tsx | txa | txs | tya => simp [Mnemonic.operation, opTax, opTay, opTsx, opTxa, opTxs, opTya, hb]
  | adc | sbc => simp [Mnemonic.operation, opAdc, opSbc, add8, getFlag_addFlags, hb]
  | inc | dec => simp [Mnemonic.operation, opInc, opDec, modify, hb]
  | inx | iny | dex | dey => simp [Mnemonic.operation, opInx, opIny, opDex, opDey, hb]
  | and | ora | eor => simp [Mnemonic.operation, opAnd, opOra, opEor, combine, hb]
  | bit => simp [Mnemonic.operation, opBit, getFlag_bitFlags, hb]
  | asl | lsr | rol | ror =>
    simp [Mnemonic.operation, opAsl, opLsr, opRol, opRor, shiftWith, getFlag_shiftFlags, hb]
  | cmp | cpx | cpy => simp [Mnemonic.operation, opCmp, opCpx, opCpy, getFlag_compareFlags, hb]
  | clc | sec | cld | sed | cli | sei | clv =>
    simp [Mnemonic.operation, opClc, opSec, opCld, opSed, opCli, opSei, opClv, State.setFlag, hb]
  | nop | illegal => exact ⟨hb, rfl⟩

theorem operation_flagB (n : Mnemonic) (hb : getFlag .b s.cpu.p = false) :
    getFlag .b (Mnemonic.operation n m s).cpu.p = false := by
  cases h : branchTest n with
  | none => exact (operation_flagB_cycles s m h hb).1
  | some test =>
    obtain ⟨taken, e⟩ := operation_branch s m (Option.isSome_of_eq_some h)
    rw [e, branch_p, hb]

end

/-! ### The dispatch keeps the invariant -/

/-- A documented base count is at most seven clocks (R146). -/
theorem baseCycles_le {i : Instr} (h : i.mnemonic ≠ .illegal) : i.row.baseCycles ≤ 7 := by
  cases i with
  | illegal opcode => exact absurd rfl h
  | _ => exact Nat.le_of_ble_eq_true rfl

/-- A branch's base count is two clocks (R146). -/
theorem baseCycles_branch {i : Instr} (h : (branchTest i.mnemonic).isSome = true) : i.row.baseCycles = 2 := by
  cases i with
  | bcc offset | bcs offset | beq offset | bmi offset | bne offset | bpl offset | bvc offset | bvs offset => rfl
  | _ => exact Bool.noConfusion h

theorem baseCycles_illegal {i : Instr} (h : i.mnemonic = .illegal) :
    i.row.baseCycles = Config.illegalOpcodeClocks := by
  cases i with
  | illegal opcode => rfl
  | _ => exact Mnemonic.noConfusion h

/-- The page penalty is at most one clock (R176). -/
theorem finishInstr_cycles_le (s : State) : (finishInstr s).cpu.cycles ≤ s.cpu.cycles + 1 := by
  rw [finishInstr_cycles]
  split <;> omega

/-- The count an instruction leaves: the stub's own, five for a branch at most, eight for any other at most (R45). -/
theorem executed_cycles_le (i : Instr) (s : State) (hb : getFlag .b s.cpu.p = false) :
    (finishInstr (Mnemonic.operation i.mnemonic i.mode (prepare i s))).cpu.cycles ≤
      max 8 Config.illegalOpcodeClocks := by
  by_cases illegal : i.mnemonic = .illegal
  · simp [illegal, Mnemonic.operation, opIllegal, baseCycles_illegal illegal]
  · refine Nat.le_trans (Nat.le_trans (finishInstr_cycles_le _) ?_) (Nat.le_max_left 8 _)
    cases h : branchTest i.mnemonic with
    | none =>
      rw [(operation_flagB_cycles _ _ h (by simp [hb])).2, prepare_cycles]
      exact Nat.succ_le_succ (baseCycles_le illegal)
    | some test =>
      have branches := Option.isSome_of_eq_some h
      obtain ⟨taken, e⟩ := operation_branch (prepare i s) i.mode branches
      have count := branch_cycles_le (prepare i s) taken
      rw [prepare_cycles, baseCycles_branch branches] at count
      rw [e]
      omega

/-- An executed instruction keeps everything outside the CPU, leaves B clear and U set, and a count within the bound. -/
theorem exec_inv {i : Instr} {s t : State} (h : s.DevicesSound) (hb : getFlag .b s.cpu.p = false)
    (run : exec i s = .next t) : t.Inv := by
  rw [exec_next] at run
  cases run
  have operated := operation_devices (prepare_devices h i) i.mnemonic i.mode
  have clear := operation_flagB (prepare i s) i.mode i.mnemonic (by simp [hb])
  rw [State.inv_iff]
  exact ⟨(finishInstr_outside _).devices operated, by simp [clear], by simp, executed_cycles_le i s hb⟩

/-! ### The phases of the master tick keep the invariant -/

theorem onNext_next {o : Host.Outcome State Fault Refusal} {f : State → State} {t : State}
    (h : onNext o f = .next t) : ∃ u, o = .next u ∧ t = f u := by
  cases o with
  | next u => cases h; exact ⟨u, rfl, rfl⟩
  | fault r => cases h
  | refused r => cases h

@[simp] theorem fetch_cpu (s : State) : (fetch s).2.cpu = s.cpu := by
  unfold fetch
  dsimp only
  split <;> simp

section
variable {s t : State} (h : s.Inv)
include h

theorem countDown_inv : (countDown s).Inv := { h with cycles := Nat.le_trans (Nat.sub_le _ 1) h.cycles }

theorem cpuClock_inv (run : cpuClock s = .next t) : t.Inv := by
  unfold cpuClock at run
  split at run
  · obtain ⟨u, executed, rfl⟩ := onNext_next run
    have fetched := fetch_devices (s.inv_iff.1 h).1
    exact countDown_inv (exec_inv fetched (by rw [fetch_cpu]; exact h.flagB) executed)
  · cases run
    exact countDown_inv h

/-- The write half of a DMA pair: as the offset wraps the engine is idle and waits, at offset 0 (R351). -/
theorem dmaStore_inv (busy : s.dma.inProgress = true) (working : s.dma.waiting = false) : (dmaStore s).Inv := by
  obtain ⟨devices, cpu⟩ := s.inv_iff.1 h
  have engine : (dmaStore s).dma.Sound := by
    unfold dmaStore
    dsimp only
    split
    · next wraps => exact ⟨fun _ => ⟨rfl, wraps⟩, fun _ => wraps⟩
    · exact ⟨by simp [busy], by simp [working]⟩
  exact (State.inv_iff _).2 ⟨{ devices with ppu := setOamByte_sound devices.ppu _ _, dma := engine }, cpu⟩

theorem dmaClock_inv (busy : s.dma.inProgress = true) : (dmaClock s).Inv := by
  obtain ⟨devices, cpu⟩ := s.inv_iff.1 h
  unfold dmaClock
  split
  · split
    · exact { h with dmaIdle := by simp [busy], dmaWaiting := Bool.noConfusion }
    · exact h
  · next working =>
    split
    · have read := memRead_devices devices (wordOf s.dma.offset s.dma.page)
      exact (State.inv_iff _).2 ⟨{ read with dma := ⟨read.dma.idle, read.dma.waiting⟩ }, by simpa using cpu⟩
    · exact dmaStore_inv h busy (by simpa using working)

theorem ppuPhase_inv : (ppuPhase s).Inv := by
  obtain ⟨devices, cpu⟩ := s.inv_iff.1 h
  exact (State.inv_iff _).2 ⟨{ devices with ppu := ppuClock_sound devices.ppu s.cart }, cpu⟩

theorem slotPhase_inv (run : slotPhase s = .next t) : t.Inv := by
  unfold slotPhase at run
  split at run
  · split at run
    · next busy => cases run; exact dmaClock_inv h busy
    · exact cpuClock_inv h run
  · cases run; exact h

theorem cpuNmi_inv : (cpuNmi s).Inv := by
  refine (State.inv_iff _).2 ⟨setCpu_devices (takeInterrupt_devices (s.inv_iff.1 h).1 _ _ _) _, ?_⟩
  rw [cpuNmi_eq]
  exact ⟨by simp [nmiStatus], by simp [nmiStatus], Nat.le_max_left 8 _⟩

theorem nmiPhase_inv : (nmiPhase s).Inv := by
  unfold nmiPhase
  split
  · exact cpuNmi_inv { h with }
  · exact h

end

/-- Settles O7: the three phases of a tick each keep the invariant. -/
theorem stepKeepsInvariant : Obligations.StepKeepsInvariant := by
  unfold Obligations.StepKeepsInvariant
  intro s t h run
  unfold step at run
  split at run
  · obtain ⟨u, slot, rfl⟩ := onNext_next run
    exact nmiPhase_inv (slotPhase_inv (ppuPhase_inv h) slot)
  · cases run

/-! ### The state after reset -/

theorem Ppu.powerOn_sound {position : Int × Nat} (onFrame : (Ppu.powerOn position).positionOk) :
    (Ppu.powerOn position).Sound where
  oam := Memory.nil_sound
  nametables := Memory.nil_sound
  palette := Memory.nil_sound
  patterns := Memory.nil_sound
  frameBuffer := Memory.nil_sound
  position := onFrame
  spriteCount := Nat.zero_le 8
  statusLow := fun _ _ => BitVec.getLsbD_zero

theorem Dma.reset_sound : Dma.reset.Sound := ⟨fun _ => ⟨rfl, rfl⟩, fun _ => rfl⟩

theorem Cpu.reset_sound (pc : Word) : (Cpu.reset pc).Sound :=
  ⟨(by decide : getFlag .b 0x20 = false), (by decide : getFlag .u 0x20 = true), Nat.le_max_left 8 _⟩

/-- Settles O6: memories with nothing listed are canonical, the values of R62 are within the bounds, and with no
cartridge the reset vector reads 0. -/
theorem resetMeetsInvariant : Obligations.ResetMeetsInvariant := by
  unfold Obligations.ResetMeetsInvariant
  constructor
  · have position : (Ppu.powerOn Config.ppuResetPosition).positionOk := by unfold Ppu.positionOk; decide
    exact (State.inv_iff _).2
      ⟨⟨Memory.nil_sound, Ppu.powerOn_sound position, Dma.reset_sound, fun _ hc => nomatch hc⟩, Cpu.reset_sound 0⟩
  · rw [hostReset, memRead16_high _ (by decide) (by decide)]
    rfl

/-! ### The stack -/

theorem stackAddr_eq_ofNat (sp : Byte) : stackAddr sp = BitVec.ofNat 16 (0x100 + sp.toNat) := by
  have := sp.isLt
  refine BitVec.eq_of_toNat_eq ?_
  rw [stackAddr_toNat, BitVec.toNat_ofNat]
  omega

theorem push_pushedBytes (d : Byte) (s : State) : PushedBytes [d] s (push d s) := by
  rw [push_eq]
  refine ⟨rfl, fun hw k b hk => ?_, fun a ha => ?_, rfl, rfl, rfl, rfl, rfl, rfl⟩
  · cases k with
    | zero => cases hk; simp [ramByte_setRamByte _ _ s hw]
    | succ k => cases hk
  · have elsewhere := ha 0 (by simp)
    rw [ramByte_setSp, ramByte_setRamByte_other]
    rw [stackAddr_mod]
    simpa using elsewhere

/-- S is back where the push found it, so the pop reads the cell the push wrote. -/
theorem pop_push (d : Byte) {s : State} (hw : s.ram.wf zeroByte) :
    (pop (push d s)).1 = d ∧ (pop (push d s)).2.cpu = s.cpu := by
  have back : (push d s).cpu.sp + 1 = s.cpu.sp := by simp
  rw [pop_eq, back, push_eq]
  exact ⟨by simp [ramByte_setRamByte _ _ s hw], rfl⟩

/-- Settles O37: S selects a cell of page 1, which is RAM. -/
theorem stackPrimitives : Obligations.StackPrimitives := by
  unfold Obligations.StackPrimitives
  intro d s
  refine ⟨push_pushedBytes d s, push_cpu s d, ?_, pop_push d⟩
  rw [pop_eq, ← stackAddr_eq_ofNat, peek_low s (stackAddr_low _)]
  rfl

end Sys2Proof.Machine
end

section
/-! The memory family: the decode of the CPU bus, one lemma per region of the address space; the mirrors of RAM and of
the PPU window; the PPU's address space as cells. -/

namespace Sys2Proof.Machine

/-- A read of any address after a write. -/
theorem Memory.read_write {α : Type} [DecidableEq α] {dflt : Nat → α} {m : Memory α} (hm : m.wf dflt) (a b : Nat)
    (v : α) : (m.write dflt a v).read dflt b = if b = a then v else m.read dflt b := by
  split
  · next same => rw [same]; exact Memory.read_write_same dflt hm a v
  · next other => exact Memory.read_write_other dflt m v other

/-! ### The decode, by region -/

section
variable (a : Word) (d : Byte) (s : State)

/-- A read of a controller port (R86, R357). -/
theorem memRead_port {a : Word} (port : a = 0x4016 ∨ a = 0x4017) :
    memRead a s = (padValue (a.getLsbD 0) s.pads, { s with pads := padReadEffect (a.getLsbD 0) s.pads }) := by
  have low : a.toNat < 0x8000 ∧ ¬ a.toNat ≤ 0x1FFF ∧ ¬ a.toNat ≤ 0x3FFF := by
    rcases port with rfl | rfl <;> decide
  simp only [memRead, cpuRead, cartCpuRead_low a low.1, low.2.1, low.2.2, port, if_false, if_true]

/-- A read between the PPU window and the cartridge, but for the two ports, is 0 without effect (R87). -/
theorem memRead_unmapped (above : 0x4000 ≤ a.toNat) (below : a.toNat ≤ 0x7FFF) (port : ¬ (a = 0x4016 ∨ a = 0x4017)) :
    memRead a s = (0, s) := by
  simp only [memRead, cpuRead, cartCpuRead_low a (show a.toNat < 0x8000 by omega), port,
    show ¬ a.toNat ≤ 0x1FFF by omega, show ¬ a.toNat ≤ 0x3FFF by omega, if_false]

/-- A write of the DMA register starts a transfer (R85, R350). -/
theorem memWrite_dma : memWrite 0x4014 d s = { s with dma := dmaStart d s.dma } := rfl

/-- A write of a controller port latches its buttons (R86, R356). -/
theorem memWrite_port {a : Word} (port : a = 0x4016 ∨ a = 0x4017) :
    memWrite a d s = { s with pads := padStrobe (a.getLsbD 0) s.pads } := by
  rcases port with rfl | rfl <;> rfl

/-- A write from 0x4000 on, but for the DMA register and the two ports, changes nothing (R87, R91). -/
theorem memWrite_unmapped (above : 0x4000 ≤ a.toNat) (dma : a ≠ 0x4014) (port : ¬ (a = 0x4016 ∨ a = 0x4017)) :
    memWrite a d s = s := by
  simp only [memWrite, dma, port, show ¬ a.toNat ≤ 0x1FFF by omega, show ¬ a.toNat ≤ 0x3FFF by omega, if_false]

/-- Only a read of the PPU window or of a port has an effect (R100). -/
theorem memRead_state_of_no_device (window : ¬ (0x2000 ≤ a.toNat ∧ a.toNat ≤ 0x3FFF))
    (port : ¬ (a = 0x4016 ∨ a = 0x4017)) : (memRead a s).2 = s := by
  have regions : a.toNat ≤ 0x1FFF ∨ (0x4000 ≤ a.toNat ∧ a.toNat ≤ 0x7FFF) ∨ 0x8000 ≤ a.toNat := by omega
  rcases regions with ram | ⟨above, below⟩ | prg
  · rw [memRead_low a s ram]
  · rw [memRead_unmapped a s above below port]
  · rw [memRead_high a s prg]

end

/-- The register an address of the PPU window selects is its remainder by 8 (R84). -/
theorem ppuReg_eq_ofNat (a : Word) : ppuReg a = BitVec.ofNat 3 (a.toNat % 8) := by
  refine BitVec.eq_of_toNat_eq ?_
  simp [ppuReg]

/-- PRG ROM repeats with the period of its size (R90). -/
theorem Cartridge.prgByte_eq (c : Cartridge) (a : Word) :
    c.prgByte a = c.prgRom.read zeroByte (a.toNat % if c.prgBanks = .one then 16384 else 32768) := by
  unfold Cartridge.prgByte
  cases c.prgBanks <;> rfl

/-- Settles O41, region by region. -/
theorem readDecode : Obligations.ReadDecode := by
  unfold Obligations.ReadDecode
  intro a s
  refine ⟨memRead_low a s, fun above below => ?_, ?_, ?_, fun above below p0 p1 => ?_, fun prg absent => ?_,
    fun c prg inserted => ?_⟩
  · rw [memRead_ppu a s above below, ppuReg_eq_ofNat]
    exact ⟨rfl, rfl⟩
  · rintro rfl
    exact memRead_port s (.inl rfl)
  · rintro rfl
    exact memRead_port s (.inr rfl)
  · exact memRead_unmapped a s above below (not_or.2 ⟨p0, p1⟩)
  · simp only [memRead_high a s prg, absent]
  · simp only [memRead_high a s prg, inserted, c.prgByte_eq]

/-- Settles O42, region by region. -/
theorem writeDecode : Obligations.WriteDecode := by
  unfold Obligations.WriteDecode
  intro a d s
  refine ⟨memWrite_low a d s, fun above below => ?_, ?_, ?_, ?_, fun above dma p0 p1 => ?_⟩
  · rw [memWrite_ppu a d s above below, ppuReg_eq_ofNat]
  · rintro rfl
    exact memWrite_dma d s
  · rintro rfl
    exact memWrite_port d s (.inl rfl)
  · rintro rfl
    exact memWrite_port d s (.inr rfl)
  · exact memWrite_unmapped a d s above dma (not_or.2 ⟨p0, p1⟩)

/-- Settles O44: a read changes no memory, and its effects are the PPU's and the ports'. -/
theorem readsChangeNoMemory : Obligations.ReadsChangeNoMemory := by
  unfold Obligations.ReadsChangeNoMemory
  intro a s
  exact ⟨memRead_memories s a, memRead_cpu a s, memRead_dma a s, memRead_ram a s, memRead_cart a s,
    fun window p0 p1 => memRead_state_of_no_device a s window (not_or.2 ⟨p0, p1⟩)⟩

/-! ### Mirrors -/

/-- The masks of R83 and R84 keep the low `k` bits: the remainder by `2 ^ k`. -/
theorem toNat_mod_eq_of_and_eq {k : Nat} (hk : k ≤ 16) {a b : Word}
    (h : a &&& BitVec.ofNat 16 (2 ^ k - 1) = b &&& BitVec.ofNat 16 (2 ^ k - 1)) :
    a.toNat % 2 ^ k = b.toNat % 2 ^ k := by
  have mask : (2 ^ k - 1) % 2 ^ 16 = 2 ^ k - 1 := by
    have := Nat.pow_le_pow_right (n := 2) (by decide) hk
    have := Nat.two_pow_pos k
    exact Nat.mod_eq_of_lt (by omega)
  have low := congrArg BitVec.toNat h
  simpa only [BitVec.toNat_and, BitVec.toNat_ofNat, mask, Nat.and_two_pow_sub_one_eq_mod] using low

/-- Settles O43: an access below 0x2000 depends on the address through its remainder by 2048 alone, and one of the PPU
window through the register it selects. -/
theorem mirrors : Obligations.Mirrors := by
  unfold Obligations.Mirrors
  refine ⟨fun a b d s hw ha hb => ?_, fun a b s same ha hb => ?_, fun a b d s same a1 a2 b1 b2 => ?_⟩
  · simp only [memWrite_low a d s ha, memRead_low b _ hb, ramByte_setRamByte a d s hw, eq_comm]
  · have cell : s.ramByte a = s.ramByte b :=
      congrArg (s.ram.read zeroByte) (toNat_mod_eq_of_and_eq (k := 11) (by decide) same)
    rw [memRead_low a s ha, memRead_low b s hb, cell]
    exact ⟨rfl, rfl⟩
  · have register : ppuReg a = ppuReg b := by
      rw [ppuReg_eq_ofNat, ppuReg_eq_ofNat]
      exact congrArg (BitVec.ofNat 3) (toNat_mod_eq_of_and_eq (k := 3) (by decide) same)
    rw [memWrite_ppu a d s a1 a2, memWrite_ppu b d s b1 b2, memRead_ppu a s a1 a2, memRead_ppu b s b1 b2, register]
    exact ⟨rfl, rfl⟩

/-! ### The PPU's address space -/

/-- The nametable of an address with a cartridge inserted (R122). -/
theorem nametableOf_some (c : Cartridge) (a : Nat) :
    nametableOf (some c) a =
      if c.mirroring = .vertical then a % 0x1000 / 0x400 % 2 else a % 0x1000 / 0x400 / 2 := by
  have quadrant : ∀ q < 4, [0, 1, 0, 1].getD q 0 = q % 2 ∧ [0, 0, 1, 1].getD q 0 = q / 2 := by decide
  obtain ⟨vertical, horizontal⟩ := quadrant (a % 0x1000 / 0x400) (by omega)
  unfold nametableOf
  dsimp only
  cases c.mirroring with
  | horizontal => exact horizontal
  | vertical => exact vertical

/-- The four palette indices that fold are those from 0x10 on divisible by 4 (R123). -/
theorem paletteIndex_eq (a : Nat) : paletteIndex a = if a % 4 = 0 then a % 16 else a % 32 := by
  unfold paletteIndex
  dsimp only
  split <;> split <;> omega

/-! Reads and writes, by region: the pattern addresses below 0x2000, the nametables below 0x3F00, the palette above. -/

section
variable {cart : Option Cartridge} {p : Ppu} {a : Word}

/-- A read below 0x2000 is a read of CHR ROM while a cartridge is inserted (R92). -/
theorem ppuRead_chrRom {c : Cartridge} (h : a.toNat % 0x4000 < 0x2000) :
    ppuRead (some c) p a = c.chrByte (a.toNat % 0x4000) := by
  simp only [ppuRead, cartPpuRead, show a.toNat % 0x4000 ≤ 0x1FFF by omega, if_true]

theorem cartPpuRead_high {x : Nat} (h : 0x2000 ≤ x) : cartPpuRead cart x = none := by
  cases cart with
  | none => rfl
  | some c => exact if_neg (by omega)

theorem ppuRead_nametable (h : 0x2000 ≤ a.toNat % 0x4000) (h' : a.toNat % 0x4000 < 0x3F00) :
    ppuRead cart p a = p.nt.read Config.vramInit (nametableKey cart (a.toNat % 0x4000)) := by
  simp only [ppuRead, cartPpuRead_high h, show ¬ a.toNat % 0x4000 ≤ 0x1FFF by omega,
    show a.toNat % 0x4000 ≤ 0x3EFF by omega, if_true, if_false]

theorem ppuRead_palette (h : 0x3F00 ≤ a.toNat % 0x4000) :
    ppuRead cart p a = p.pal.read Config.paletteInit (paletteIndex (a.toNat % 0x4000)) := by
  simp only [ppuRead, cartPpuRead_high (show 0x2000 ≤ a.toNat % 0x4000 by omega),
    show ¬ a.toNat % 0x4000 ≤ 0x1FFF by omega, show ¬ a.toNat % 0x4000 ≤ 0x3EFF by omega, if_false]

variable {d : Byte}

theorem ppuWrite_patterns (h : a.toNat % 0x4000 < 0x2000) :
    ppuWrite cart a d p = { p with pt := p.pt.write Config.patternInit (a.toNat % 0x4000) d } := by
  simp only [ppuWrite, show a.toNat % 0x4000 ≤ 0x1FFF by omega, if_true]

theorem ppuWrite_nametable (h : 0x2000 ≤ a.toNat % 0x4000) (h' : a.toNat % 0x4000 < 0x3F00) :
    ppuWrite cart a d p =
      { p with nt := p.nt.write Config.vramInit (nametableKey cart (a.toNat % 0x4000)) d } := by
  simp only [ppuWrite, show ¬ a.toNat % 0x4000 ≤ 0x1FFF by omega, show a.toNat % 0x4000 ≤ 0x3EFF by omega,
    if_true, if_false]

theorem ppuWrite_palette (h : 0x3F00 ≤ a.toNat % 0x4000) :
    ppuWrite cart a d p =
      { p with pal := p.pal.write Config.paletteInit (paletteIndex (a.toNat % 0x4000)) d } := by
  simp only [ppuWrite, show ¬ a.toNat % 0x4000 ≤ 0x1FFF by omega, show ¬ a.toNat % 0x4000 ≤ 0x3EFF by omega,
    if_false]

end

/-- The cell an address selects while a cartridge is inserted: CHR ROM (0), the nametables (1) or the palette (2), and the
place in it. -/
def ppuCell (c : Cartridge) (a : Word) : Nat × Nat :=
  if a.toNat % 0x4000 < 0x2000 then (0, a.toNat % 0x4000)
  else if a.toNat % 0x4000 < 0x3F00 then (1, nametableKey (some c) (a.toNat % 0x4000))
  else (2, paletteIndex (a.toNat % 0x4000))

section
variable (c : Cartridge) {a : Word}

theorem ppuCell_chrRom (h : a.toNat % 0x4000 < 0x2000) : ppuCell c a = (0, a.toNat % 0x4000) := if_pos h

theorem ppuCell_nametable (h : 0x2000 ≤ a.toNat % 0x4000) (h' : a.toNat % 0x4000 < 0x3F00) :
    ppuCell c a = (1, nametableKey (some c) (a.toNat % 0x4000)) := by
  rw [ppuCell, if_neg (by omega), if_pos h']

theorem ppuCell_palette (h : 0x3F00 ≤ a.toNat % 0x4000) : ppuCell c a = (2, paletteIndex (a.toNat % 0x4000)) := by
  rw [ppuCell, if_neg (by omega), if_neg (by omega)]

/-- The place in a cell's memory, by the arithmetic of R122 and R123. -/
theorem ppuCell_eq :
    ppuCell c a =
      if a.toNat % 0x4000 < 0x2000 then (0, a.toNat % 0x4000)
      else if a.toNat % 0x4000 < 0x3F00 then
        (1, 0x400 * (if c.mirroring = .vertical then a.toNat % 0x4000 % 0x1000 / 0x400 % 2
          else a.toNat % 0x4000 % 0x1000 / 0x400 / 2) + a.toNat % 0x4000 % 0x400)
      else (2, if a.toNat % 0x4000 % 4 = 0 then a.toNat % 0x4000 % 16 else a.toNat % 0x4000 % 32) := by
  rw [ppuCell, nametableKey, nametableOf_some, paletteIndex_eq]

/-- A write at or above 0x2000 is read back at the addresses that select its cell, and at no other. -/
theorem ppuRead_ppuWrite {p : Ppu} (nt : p.nt.wf Config.vramInit) (pal : p.pal.wf Config.paletteInit) (b : Word)
    (d : Byte) (high : 0x2000 ≤ a.toNat % 0x4000) :
    ppuRead (some c) (ppuWrite (some c) a d p) b = if ppuCell c b = ppuCell c a then d else ppuRead (some c) p b := by
  have regions :
      b.toNat % 0x4000 < 0x2000 ∨ (0x2000 ≤ b.toNat % 0x4000 ∧ b.toNat % 0x4000 < 0x3F00) ∨
        0x3F00 ≤ b.toNat % 0x4000 := by omega
  rcases Nat.lt_or_ge (a.toNat % 0x4000) 0x3F00 with a1 | a2
  · rw [ppuWrite_nametable high a1, ppuCell_nametable c high a1]
    rcases regions with b0 | ⟨b1, b1'⟩ | b2
    · simp [ppuRead_chrRom b0, ppuCell_chrRom c b0]
    · simp [ppuRead_nametable b1 b1', ppuCell_nametable c b1 b1', Memory.read_write nt]
    · simp [ppuRead_palette b2, ppuCell_palette c b2]
  · rw [ppuWrite_palette a2, ppuCell_palette c a2]
    rcases regions with b0 | ⟨b1, b1'⟩ | b2
    · simp [ppuRead_chrRom b0, ppuCell_chrRom c b0]
    · simp [ppuRead_nametable b1 b1', ppuCell_nametable c b1 b1']
    · simp [ppuRead_palette b2, ppuCell_palette c b2, Memory.read_write pal]

end

/-- A write below 0x2000 goes to the pattern pages, which CHR ROM hides (R92, R93). -/
theorem ppuRead_ppuWrite_patterns (c : Cartridge) (p : Ppu) {a : Word} (b : Word) (d : Byte)
    (low : a.toNat % 0x4000 < 0x2000) :
    ppuRead (some c) (ppuWrite (some c) a d p) b = ppuRead (some c) p b := by
  rw [ppuWrite_patterns low]
  by_cases hidden : b.toNat % 0x4000 < 0x2000
  · rw [ppuRead_chrRom hidden, ppuRead_chrRom hidden]
  · simp only [ppuRead, cartPpuRead_high (Nat.le_of_not_lt hidden), show ¬ b.toNat % 0x4000 ≤ 0x1FFF by omega, if_false]

/-- Settles O47: reads and writes at or above 0x2000 go through the cell of their address. -/
theorem ppuMemoryReadsBack : Obligations.PpuMemoryReadsBack := by
  unfold Obligations.PpuMemoryReadsBack
  intro c p a b d nt pal
  refine ⟨fun high => ?_, ppuRead_ppuWrite_patterns c p b d, ppuRead_chrRom⟩
  rw [ppuRead_ppuWrite c nt pal b d high, ppuCell_eq, ppuCell_eq]

end Sys2Proof.Machine
end

section
/-! The encoding family: every constructor of `Instr` is a row of one of the three shapes the decoder tells apart, with
no operand, with a byte and with a 16-bit value; the decoder and the encoder agree on each shape. -/

namespace Sys2Proof.Machine

/-! ### The decoder, by the length of the opcode's row -/

section
variable {opcode : Byte}

theorem decode_of_length_one (length : opcodeLength opcode = 1) (rest : List Byte) :
    decode (opcode :: rest) = .ok (assemble opcode 0 0, rest) := by
  simp only [decode, length]

theorem decode_of_length_two (length : opcodeLength opcode = 2) (lo : Byte) (rest : List Byte) :
    decode (opcode :: lo :: rest) = .ok (assemble opcode lo 0, rest) := by
  simp only [decode, length]

theorem decode_of_length_three (length : opcodeLength opcode = 3) (lo hi : Byte) (rest : List Byte) :
    decode (opcode :: lo :: hi :: rest) = .ok (assemble opcode lo hi, rest) := by
  simp only [decode, length]

/-- A row with an operand byte needs it. -/
theorem decode_of_length_two_of_ok (length : opcodeLength opcode = 2) {tail rest : List Byte} {i : Instr}
    (ok : decode (opcode :: tail) = .ok (i, rest)) : ∃ lo, tail = lo :: rest ∧ i = assemble opcode lo 0 := by
  match tail with
  | [] => simp [decode, length] at ok
  | lo :: rest' =>
    rw [decode_of_length_two length] at ok
    cases ok
    exact ⟨lo, rfl, rfl⟩

/-- A row with a 16-bit operand needs both of its bytes. -/
theorem decode_of_length_three_of_ok (length : opcodeLength opcode = 3) {tail rest : List Byte} {i : Instr}
    (ok : decode (opcode :: tail) = .ok (i, rest)) :
    ∃ lo hi, tail = lo :: hi :: rest ∧ i = assemble opcode lo hi := by
  match tail with
  | [] | [_] => simp [decode, length] at ok
  | lo :: hi :: rest' =>
    rw [decode_of_length_three length] at ok
    cases ok
    exact ⟨lo, hi, rfl, rfl⟩

end

/-! ### The shapes of a row -/

/-- `i` is built by the row of `opcode`, and what the row builds from any operand encodes back to the opcode byte and
that operand. -/
inductive HasRow (opcode : Byte) : Instr → Prop
  | plain {i : Instr} (length : opcodeLength opcode = 1) (build : assemble opcode 0 0 = i) (wf : i.wf = true)
      (bytes : encode i = [opcode]) : HasRow opcode i
  | byte {f : Byte → Instr} {b : Byte} (length : opcodeLength opcode = 2) (build : ∀ lo, assemble opcode lo 0 = f lo)
      (wf : ∀ lo, (f lo).wf = true) (bytes : ∀ lo, encode (f lo) = [opcode, lo]) : HasRow opcode (f b)
  | word {f : Word → Instr} {w : Word} (length : opcodeLength opcode = 3)
      (build : ∀ lo hi, assemble opcode lo hi = f (wordOf lo hi)) (wf : ∀ w, (f w).wf = true)
      (bytes : ∀ w, encode (f w) = [opcode, loByte w, hiByte w]) : HasRow opcode (f w)

/-- The byte of a well-formed stub is one of R147. -/
theorem illegal_wf_iff (b : Byte) : (Instr.illegal b).wf = true ↔ b ∈ illegalOpcodes := List.contains_iff_mem

/-- Each byte of R147 selects its stub: the two lists of instructions are one. -/
theorem assemble_illegal : ∀ b ∈ illegalOpcodes, assemble b 0 0 = .illegal b := List.map_inj_left.1 rfl

/-- Every well-formed instruction has the row of its opcode byte: one shape per operand type (R141). -/
theorem hasRow_of_wf {i : Instr} (wf : i.wf = true) : HasRow i.row.opcode i := by
  cases i with
  | tax | tay | tsx | txa | txs | tya | inx | iny | dex | dey | aslAcc | lsrAcc | rolAcc | rorAcc | rts | brk | rti
  | pha | php | pla | plp | clc | sec | cld | sed | cli | sei | clv | nop => exact .plain rfl rfl rfl rfl
  | ldaImm | ldaZp0 | ldaZpx | ldaIzx | ldaIzy | ldxImm | ldxZp0 | ldxZpy | ldyImm | ldyZp0 | ldyZpx | staZp0 | staZpx
  | staIzx | staIzy | stxZp0 | stxZpy | styZp0 | styZpx | adcImm | adcZp0 | adcZpx | adcIzx | adcIzy | sbcImm | sbcZp0
  | sbcZpx | sbcIzx | sbcIzy | incZp0 | incZpx | decZp0 | decZpx | andImm | andZp0 | andZpx | andIzx | andIzy | oraImm
  | oraZp0 | oraZpx | oraIzx | oraIzy | eorImm | eorZp0 | eorZpx | eorIzx | eorIzy | bitZp0 | aslZp0 | aslZpx | lsrZp0
  | lsrZpx | rolZp0 | rolZpx | rorZp0 | rorZpx | bcc | bcs | beq | bmi | bne | bpl | bvc | bvs | cmpImm | cmpZp0
  | cmpZpx | cmpIzx | cmpIzy | cpxImm | cpxZp0 | cpyImm | cpyZp0 =>
    dsimp only [Instr.row]
    exact .byte rfl (fun _ => rfl) (fun _ => rfl) fun _ => rfl
  | ldaAbs | ldaAbx | ldaAby | ldxAbs | ldxAby | ldyAbs | ldyAbx | staAbs | staAbx | staAby | stxAbs | styAbs | adcAbs
  | adcAbx | adcAby | sbcAbs | sbcAbx | sbcAby | incAbs | incAbx | decAbs | decAbx | andAbs | andAbx | andAby | oraAbs
  | oraAbx | oraAby | eorAbs | eorAbx | eorAby | bitAbs | aslAbs | aslAbx | lsrAbs | lsrAbx | rolAbs | rolAbx | rorAbs
  | rorAbx | cmpAbs | cmpAbx | cmpAby | cpxAbs | cpyAbs | jmpAbs | jmpInd | jsr =>
    dsimp only [Instr.row]
    exact .word rfl (fun _ _ => rfl) (fun _ => rfl) fun _ => rfl
  | illegal b =>
    have listed := (illegal_wf_iff b).1 wf
    exact .plain (Laws.RowLength.illegal_length b listed) (assemble_illegal b listed) wf rfl

/-- Every cell of the opcode map of R145 holds the row of its own byte. -/
theorem assemble_opcode : ∀ opcode : Byte, (assemble opcode 0 0).row.opcode = opcode := by decide

/-- The cells with no documented row are the bytes of R147. -/
theorem assemble_wf : ∀ opcode : Byte, (assemble opcode 0 0).wf = true := by decide

theorem hasRow_assemble (opcode : Byte) : HasRow opcode (assemble opcode 0 0) := by
  have row := hasRow_of_wf (assemble_wf opcode)
  rwa [assemble_opcode] at row

/-! ### The round trip -/

theorem HasRow.decode_encode {opcode : Byte} {i : Instr} (row : HasRow opcode i) (rest : List Byte) :
    decode (encode i ++ rest) = .ok (i, rest) := by
  cases row with
  | plain length build _ bytes => rw [bytes, List.singleton_append, decode_of_length_one length, build]
  | byte length build _ bytes =>
    simp only [bytes, List.cons_append, List.nil_append, decode_of_length_two length, build]
  | word length build _ bytes =>
    simp only [bytes, List.cons_append, List.nil_append, decode_of_length_three length, build, wordOf_loByte_hiByte]

theorem HasRow.encode_of_decode {opcode : Byte} {j : Instr} (row : HasRow opcode j) {tail rest : List Byte} {i : Instr}
    (ok : decode (opcode :: tail) = .ok (i, rest)) : i.wf = true ∧ opcode :: tail = encode i ++ rest := by
  cases row with
  | plain length build wf bytes =>
    rw [decode_of_length_one length, build] at ok
    cases ok
    exact ⟨wf, by rw [bytes, List.singleton_append]⟩
  | byte length build wf bytes =>
    obtain ⟨lo, rfl, rfl⟩ := decode_of_length_two_of_ok length ok
    rw [build, bytes]
    exact ⟨wf lo, rfl⟩
  | word length build wf bytes =>
    obtain ⟨lo, hi, rfl, rfl⟩ := decode_of_length_three_of_ok length ok
    rw [build, bytes, loByte_wordOf, hiByte_wordOf]
    exact ⟨wf _, rfl⟩

/-- Settles O1, by the shape of the instruction's row. -/
theorem decodeOfEncode : Obligations.DecodeOfEncode := by
  unfold Obligations.DecodeOfEncode
  intro i rest wf
  exact (hasRow_of_wf wf).decode_encode rest

/-- Settles O2, by the shape of the row the opcode byte selects. -/
theorem decodedBytesAreAnEncoding : Obligations.DecodedBytesAreAnEncoding := by
  unfold Obligations.DecodedBytesAreAnEncoding
  intro bytes i rest ok
  cases bytes with
  | nil => cases ok
  | cons opcode tail => exact (hasRow_assemble opcode).encode_of_decode ok

/-! ### The table -/

/-- A form does not depend on the operand, so each constructor's is a closed value to look up in its mnemonic's row of
R146; the stub's is by its byte (R147). -/
theorem formOf_mem_specForms {i : Instr} (wf : i.wf = true) : formOf i ∈ specForms i.mnemonic := by
  refine of_decide_eq_true ?_
  cases i with
  | illegal b => exact decide_eq_true (List.mem_map_of_mem ((illegal_wf_iff b).1 wf))
  | _ => rfl

theorem assemble_of_mem_specForms {n : Mnemonic} (documented : n ≠ .illegal) :
    ∀ form ∈ specForms n, (assemble form.2.1 0 0).mnemonic = n ∧ formOf (assemble form.2.1 0 0) = form := by
  cases n with
  | illegal => contradiction
  | _ => decide

theorem illegalOpcodes_nodup : illegalOpcodes.Nodup := by decide

/-- Settles O3. -/
theorem opcodeTable : Obligations.OpcodeTable := by
  unfold Obligations.OpcodeTable
  refine ⟨fun i wf => formOf_mem_specForms wf, fun n documented => assemble_of_mem_specForms documented, rfl,
    illegalOpcodes_nodup, fun b listed rest => ?_⟩
  rw [decode_of_length_one (Laws.RowLength.illegal_length b listed), assemble_illegal b listed]

/-- Settles O4: the decoder is run on each word. -/
theorem opcodeWordsDecode : Obligations.OpcodeWordsDecode := by
  unfold Obligations.OpcodeWordsDecode
  decide

end Sys2Proof.Machine
end

section
/-! The addressing family: what each mode's resolver leaves, the operand read, and the ticks of the machine, those that
dispatch an instruction and those that do not. -/

namespace Sys2Proof.Machine

/-! ### Bytes and pages -/

theorem zext16_toNat (b : Byte) : (zext16 b).toNat = b.toNat := by
  have := b.isLt
  simp only [zext16, BitVec.toNat_setWidth]
  omega

theorem zext16_eq_ofNat (b : Byte) : zext16 b = BitVec.ofNat 16 b.toNat := by
  refine BitVec.eq_of_toNat_eq ?_
  simp [zext16]

/-- A byte as a two's complement offset (R8). -/
theorem sext16_eq_ofInt : ∀ b : Byte, sext16 b = BitVec.ofInt 16 b.toInt := by decide

theorem hiByte_toNat (w : Word) : (hiByte w).toNat = w.toNat / 256 := by
  have := w.isLt
  simp only [hiByte, BitVec.extractLsb'_toNat, Nat.shiftRight_eq_div_pow]
  omega

/-- An address left its base's page where their high bytes differ (R187). -/
theorem crossesPage_iff (base addr : Word) :
    crossesPage base addr = true ↔ addr.toNat / 256 ≠ base.toNat / 256 := by
  rw [crossesPage, bne_iff_ne, ne_eq, ← BitVec.toNat_inj, hiByte_toNat, hiByte_toNat]

theorem loByte_add_one (w : Word) : loByte (w + 1) = loByte w + 1 := by
  refine BitVec.eq_of_toNat_eq ?_
  simp [loByte]

theorem wordOf_eq_ofNat (lo hi : Byte) : wordOf lo hi = BitVec.ofNat 16 (256 * hi.toNat + lo.toNat) := by
  rw [← wordOf_toNat, BitVec.ofNat_toNat, BitVec.setWidth_eq]

/-- The word with one word's high byte and another's low byte. -/
theorem wordOf_loByte_hiByte_eq_or (a b : Word) :
    wordOf (loByte b) (hiByte a) = (a &&& 0xFF00) ||| (b &&& 0x00FF) := by
  have high : ∀ i < 16, (0xFF00 : Word).getLsbD i = decide (8 ≤ i) := by decide
  have low : ∀ i < 16, (0x00FF : Word).getLsbD i = decide (i < 8) := by decide
  refine BitVec.eq_of_getLsbD_eq fun i hi => ?_
  rw [getLsbD_wordOf, BitVec.getLsbD_or, BitVec.getLsbD_and, BitVec.getLsbD_and, high i hi, low i hi, loByte, hiByte,
    BitVec.getLsbD_extractLsb', BitVec.getLsbD_extractLsb']
  split
  · next inLow => simp [inLow, show ¬ 8 ≤ i by omega]
  · next inHigh => simp [inHigh, show 8 ≤ i by omega, show i - 8 < 8 by omega, show 8 + (i - 8) = i by omega]

/-! ### The resolvers -/

section
variable (s : State)

/-- An indexed address: the sum modulo 2^16, and whether it left the base's page (R187, R188). -/
theorem resolveIndexed_address (base : Word) (index : Byte) :
    let t := resolveIndexed base index s
    t.cpu.absAddr.toNat = (base.toNat + index.toNat) % 65536 ∧
      (t.cpu.pageCrossed = true ↔ t.cpu.absAddr.toNat / 256 ≠ base.toNat / 256) := by
  constructor
  · simp only [resolveIndexed, setPageCrossed_absAddr, setAbsAddr_absAddr, BitVec.toNat_add, zext16_toNat]
  · exact crossesPage_iff base (base + zext16 index)

/-- A pointer in zero page is read without side effect, and wraps inside the page (R190, R191). -/
theorem zeroPagePointer_eq (zp : Byte) :
    zeroPagePointer zp s =
      (wordOf (s.peek (BitVec.ofNat 16 zp.toNat)) (s.peek (BitVec.ofNat 16 ((zp.toNat + 1) % 256))), s) := by
  have inRam : ∀ b : Byte, (zext16 b).toNat ≤ 0x1FFF := fun b => by
    have := b.isLt
    rw [zext16_toNat]
    omega
  have next : (zp + 1).toNat = (zp.toNat + 1) % 256 := BitVec.toNat_add zp 1
  rw [zeroPagePointer, memRead16_low _ s (inRam zp) (inRam (zp + 1)), ← peek_low s (inRam zp),
    ← peek_low s (inRam (zp + 1)), zext16_eq_ofNat, zext16_eq_ofNat, next]

theorem resolve_zpIndexed_toNat (zp index : Byte) :
    (s.setAbsAddr (zext16 (zp + index))).cpu.absAddr.toNat = (zp.toNat + index.toNat) % 256 := by
  rw [setAbsAddr_absAddr, zext16_toNat, BitVec.toNat_add]

/-- X is added to the operand, inside zero page, before the pointer is read (R190). -/
theorem resolve_izx_eq (zp : Byte) :
    let z := (zp.toNat + s.cpu.x.toNat) % 256
    resolve (.izx zp) s =
      s.setAbsAddr (wordOf (s.peek (BitVec.ofNat 16 z)) (s.peek (BitVec.ofNat 16 ((z + 1) % 256)))) := by
  have sum : (zp + s.cpu.x).toNat = (zp.toNat + s.cpu.x.toNat) % 256 := BitVec.toNat_add zp s.cpu.x
  simp only [resolve, resolveIndexedIndirect, zeroPagePointer_eq, sum]

/-- Y is added to the pointer after it is read (R191). -/
theorem resolve_izy_eq (zp : Byte) :
    resolve (.izy zp) s =
      resolveIndexed
        (wordOf (s.peek (BitVec.ofNat 16 zp.toNat)) (s.peek (BitVec.ofNat 16 ((zp.toNat + 1) % 256)))) s.cpu.y s := by
  simp only [resolve, resolveIndirectIndexed, zeroPagePointer_eq]

/-- The pointer's two reads, the second in the page of the first (R189). -/
theorem resolve_ind_eq (ptr : Word) :
    let lo := memRead ptr s
    let hi := memRead ((ptr &&& 0xFF00) ||| ((ptr + 1) &&& 0x00FF)) lo.2
    resolve (.ind ptr) s = { hi.2 with cpu := { s.cpu with absAddr := wordOf lo.1 hi.1 } } := by
  simp only [resolve, resolveIndirect, memRead16, ← loByte_add_one, wordOf_loByte_hiByte_eq_or, State.setAbsAddr,
    memRead_cpu]

theorem resolve_relAddr {m : Mode} (h : modeName m ≠ .rel) : (resolve m s).cpu.relAddr = s.cpu.relAddr := by
  cases m with
  | rel offset => exact absurd rfl h
  | ind ptr => rw [resolve_ind_eq]
  | izx zp => rw [resolve_izx_eq]; rfl
  | izy zp => rw [resolve_izy_eq]; rfl
  | _ => rfl

/-- The three indexed modes that can leave a page, and no other, write page_crossed (R44, R193). -/
theorem resolve_pageCrossed {m : Mode} (h : modeName m ∉ [.abx, .aby, .izy]) :
    (resolve m s).cpu.pageCrossed = s.cpu.pageCrossed := by
  cases m with
  | abx base | aby base | izy zp => exact absurd (by simp [modeName]) h
  | ind ptr => rw [resolve_ind_eq]
  | izx zp => rw [resolve_izx_eq]; rfl
  | _ => rfl

theorem resolve_outside_of_modeName {m : Mode} (h : modeName m ≠ .ind) : OutsideCpuSame s (resolve m s) :=
  resolve_outside s fun _ e => h (congrArg modeName e)

theorem resolve_cpu_eq (m : Mode) :
    let t := resolve m s
    t.cpu = { s.cpu with absAddr := t.cpu.absAddr, relAddr := t.cpu.relAddr, pageCrossed := t.cpu.pageCrossed } := by
  obtain ⟨abs, rel, crossed, h⟩ := resolve_cpu s m
  simp only [h]

/-! ### The operand -/

/-- In every mode but ACC and IMM the operand is one read of abs_addr (R174). -/
theorem operand_memory {m : Mode} (h : modeName m ∉ [.acc, .imm]) : operand m s = memRead s.cpu.absAddr s := by
  cases m with
  | acc | imm value => exact absurd (by simp [modeName]) h
  | _ => rfl

theorem operand_of_modeName_acc {m : Mode} (h : modeName m = .acc) : operand m s = (s.cpu.a, s) := by
  cases m with
  | acc => rfl
  | _ => exact ModeName.noConfusion h

end

/-- Settles O40, mode by mode. -/
theorem addressingModes : Obligations.AddressingModes := by
  unfold Obligations.AddressingModes
  intro s
  refine ⟨fun _ => rfl, zext16_toNat, fun zp => resolve_zpIndexed_toNat s zp _,
    fun zp => resolve_zpIndexed_toNat s zp _, fun _ => rfl, fun base => resolveIndexed_address s base _,
    fun base => resolveIndexed_address s base _, fun zp => ?_, fun zp => ?_,
    fun offset => ⟨sext16_eq_ofInt offset, rfl⟩, resolve_ind_eq s, ⟨rfl, rfl⟩,
    fun m => ⟨resolve_cpu_eq s m, resolve_relAddr s, resolve_pageCrossed s, resolve_outside_of_modeName s⟩,
    fun m => ⟨operand_of_modeName_acc s, ?_, operand_memory s⟩, fun _ => rfl⟩
  · rw [resolve_izx_eq]
    rfl
  · rw [resolve_izy_eq]
    exact resolveIndexed_address s _ _
  · rintro value rfl
    rfl

/-! ### The NMI latch -/

/-- No read of a PPU register takes or raises the NMI latch (R364, R366). -/
theorem ppuRegReadEffect_nmiPending (cart : Option Cartridge) (r : BitVec 3) (p : Ppu) :
    (ppuRegReadEffect cart r p).nmiPending = p.nmiPending := by
  unfold ppuRegReadEffect
  split <;> rfl

@[simp] theorem memRead_nmiPending (a : Word) (s : State) : (memRead a s).2.ppu.nmiPending = s.ppu.nmiPending := by
  by_cases window : 0x2000 ≤ a.toNat ∧ a.toNat ≤ 0x3FFF
  · rw [memRead_ppu a s window.1 window.2]
    exact ppuRegReadEffect_nmiPending s.cart (ppuReg a) s.ppu
  · by_cases port : a = 0x4016 ∨ a = 0x4017
    · rw [memRead_port s port]
    · rw [memRead_state_of_no_device a s window port]

/-! ### The phases of a tick -/

section
variable {s : State}

/-- Once reset, a step is the PPU's clock, the slot and the NMI phase (R340). -/
theorem step_of_ready (ready : s.ready = true) : step s = onNext (slotPhase (ppuPhase s)) nmiPhase := if_pos ready

theorem slotPhase_of_no_slot (tick : s.ticks % 3 ≠ 0) : slotPhase s = .next s := if_neg tick

theorem slotPhase_of_transfer (tick : s.ticks % 3 = 0) (busy : s.dma.inProgress = true) :
    slotPhase s = .next (dmaClock s) := by
  rw [slotPhase, if_pos tick, if_pos busy]

theorem slotPhase_of_idle (tick : s.ticks % 3 = 0) (idle : s.dma.inProgress = false) : slotPhase s = cpuClock s := by
  rw [slotPhase, if_pos tick, idle, if_neg Bool.false_ne_true]

theorem cpuClock_of_count (count : s.cpu.cycles ≠ 0) : cpuClock s = .next (countDown s) := if_neg count

theorem cpuClock_of_no_count (count : s.cpu.cycles = 0) :
    cpuClock s = onNext (exec (fetch s).1 (fetch s).2) countDown := if_pos count

/-- A slot that leaves the NMI latch alone ends its tick with the NMI taken, if it was latched (R342). -/
theorem step_of_slot {t : State} (ready : s.ready = true) (slot : slotPhase (ppuPhase s) = .next t)
    (latch : t.ppu.nmiPending = (ppuPhase s).ppu.nmiPending) :
    step s = .next (if (ppuPhase s).ppu.nmiPending then cpuNmi { t with ppu := { t.ppu with nmiPending := false } }
      else t) := by
  rw [step_of_ready ready, slot, ← latch]
  rfl

/-! ### The DMA engine's clock, by what the slot finds (R351) -/

theorem dmaClock_of_waiting (waiting : s.dma.waiting = true) :
    dmaClock s = { s with dma := { s.dma with waiting := decide (s.ticks % 2 = 0) } } := by
  rw [dmaClock, if_pos waiting]
  split
  · next odd => rw [odd]; rfl
  · next even => rw [decide_eq_true (by omega), ← waiting]

theorem dmaClock_of_read (working : s.dma.waiting = false) (even : s.ticks % 2 = 0) :
    let r := memRead (BitVec.ofNat 16 (256 * s.dma.page.toNat + s.dma.offset.toNat)) s
    dmaClock s = { r.2 with cpu := s.cpu, dma := { s.dma with data := r.1 } } := by
  rw [dmaClock, working, if_neg Bool.false_ne_true, if_pos even, ← wordOf_eq_ofNat]
  simp only [memRead_dma, ← memRead_cpu (wordOf s.dma.offset s.dma.page) s]

theorem dmaClock_of_write (busy : s.dma.inProgress = true) (working : s.dma.waiting = false)
    (odd : s.ticks % 2 = 1) :
    let last := decide (s.dma.offset = 0xFF)
    dmaClock s = { s with
      ppu := { s.ppu with oam := s.ppu.oam.write Config.oamInit s.dma.offset.toNat s.dma.data }
      dma := { s.dma with offset := s.dma.offset + 1, inProgress := !last, waiting := last } } := by
  have wraps : s.dma.offset + 1 = 0 ↔ s.dma.offset = 0xFF := by bv_omega
  rw [dmaClock, working, if_neg Bool.false_ne_true, if_neg (by omega), dmaStore]
  by_cases last : s.dma.offset = 0xFF
  · simp [last, Ppu.setOamByte]
  · simp only [if_neg (mt wraps.1 last), decide_eq_false last, Ppu.setOamByte, busy, working, Bool.not_false]

end

/-- Settles O10: the slot decides what the tick does between the PPU's clock and the NMI phase. -/
theorem waitingClock : Obligations.WaitingClock := by
  unfold Obligations.WaitingClock
  intro s ready
  refine ⟨fun tick => ?_, fun tick idle count => ?_, fun tick busy => ?_⟩
  · exact step_of_slot ready (slotPhase_of_no_slot (s := ppuPhase s) tick) rfl
  · have slot := slotPhase_of_idle (s := ppuPhase s) tick idle
    exact step_of_slot ready (slot.trans (cpuClock_of_count (s := ppuPhase s) count)) rfl
  · have slot := slotPhase_of_transfer (s := ppuPhase s) tick busy
    refine ⟨fun waiting => ?_, fun working even => ?_, fun working odd => ?_⟩
    · rw [dmaClock_of_waiting (s := ppuPhase s) waiting] at slot
      exact step_of_slot ready slot rfl
    · rw [dmaClock_of_read (s := ppuPhase s) working even] at slot
      exact step_of_slot ready slot (memRead_nmiPending _ _)
    · rw [dmaClock_of_write (s := ppuPhase s) busy working odd] at slot
      exact step_of_slot ready slot rfl

/-! ### The fetch and the decoder -/

/-- The operand bytes a row takes are those its opcode byte announces (R143). -/
theorem HasRow.mode_length {opcode : Byte} {i : Instr} (row : HasRow opcode i) :
    i.mode.length = opcodeLength opcode := by
  have bytes : (encode i).length = i.mode.length := Nat.add_comm _ 1
  cases row with
  | plain length _ _ encoded | byte length _ _ encoded | word length _ _ encoded =>
    rw [← bytes, encoded, length]
    rfl

theorem hasRow_of_decode {opcode : Byte} {tail rest : List Byte} {i : Instr}
    (ok : decode (opcode :: tail) = .ok (i, rest)) : HasRow opcode i := by
  obtain ⟨wf, bytes⟩ := (hasRow_assemble opcode).encode_of_decode ok
  obtain ⟨rfl, -⟩ := List.cons.inj bytes
  exact hasRow_of_wf wf

theorem HasRow.opcodeLength_cases {opcode : Byte} {i : Instr} (row : HasRow opcode i) :
    opcodeLength opcode = 1 ∨ opcodeLength opcode = 2 ∨ opcodeLength opcode = 3 := by
  cases row with
  | plain length => exact .inl length
  | byte length => exact .inr (.inl length)
  | word length => exact .inr (.inr length)

/-- Three bytes always hold an instruction (R140). -/
theorem decode_three (opcode lo hi : Byte) : ∃ i rest, decode [opcode, lo, hi] = .ok (i, rest) := by
  rcases (hasRow_assemble opcode).opcodeLength_cases with length | length | length
  · exact ⟨_, _, decode_of_length_one length _⟩
  · exact ⟨_, _, decode_of_length_two length _ _⟩
  · exact ⟨_, _, decode_of_length_three length _ _ _⟩

/-- The fetch gives the instruction the bytes read at PC decode to, and the state its last read leaves (R171). -/
theorem fetch_eq_of_decode (s : State) {i : Instr} {rest : List Byte} :
    let o := memRead s.cpu.pc s
    let l := memRead (s.cpu.pc + 1) o.2
    let h := memRead (s.cpu.pc + 2) l.2
    decode [o.1, l.1, h.1] = .ok (i, rest) →
      fetch s = (i, if i.mode.length = 1 then o.2 else if i.mode.length = 2 then l.2 else h.2) := by
  intro o l h ok
  have row := hasRow_of_decode ok
  rw [row.mode_length]
  rcases row.opcodeLength_cases with length | length | length
  · rw [decode_of_length_one length] at ok
    cases ok
    simp [fetch, o, length]
  · rw [decode_of_length_two length] at ok
    cases ok
    simp [fetch, o, l, length]
  · rw [decode_of_length_three length] at ok
    cases ok
    simp [fetch, o, l, h, length]

/-- Where the bytes of the instruction are read without effect, the fetch has none (R171). -/
theorem fetch_eq_of_reads {s : State} {bytes : Nat → Byte} {i : Instr} {rest : List Byte}
    (ok : decode [bytes 0, bytes 1, bytes 2] = .ok (i, rest))
    (reads : ∀ k < i.mode.length, memRead (s.cpu.pc + BitVec.ofNat 16 k) s = (bytes k, s)) : fetch s = (i, s) := by
  have row := hasRow_of_decode ok
  rw [row.mode_length] at reads
  have read0 := reads 0 (by rcases row.opcodeLength_cases with length | length | length <;> omega)
  rw [BitVec.add_zero] at read0
  rcases row.opcodeLength_cases with length | length | length
  · rw [decode_of_length_one length] at ok
    cases ok
    simp only [fetch, read0, length]
  · rw [decode_of_length_two length] at ok
    cases ok
    have read1 : memRead (s.cpu.pc + 1) s = (bytes 1, s) := reads 1 (by omega)
    simp only [fetch, read0, read1, length]
  · rw [decode_of_length_three length] at ok
    cases ok
    have read1 : memRead (s.cpu.pc + 1) s = (bytes 1, s) := reads 1 (by omega)
    have read2 : memRead (s.cpu.pc + 2) s = (bytes 2, s) := reads 2 (by omega)
    simp only [fetch, read0, read1, read2, length]

/-- A tick that dispatches is the instruction the fetch gives, one clock of its count and the NMI phase (R170, R340). -/
theorem step_of_dispatch {s : State} (ready : s.ready = true) (tick : (s.ticks + 1) % 3 = 0)
    (idle : s.dma.inProgress = false) (count : s.cpu.cycles = 0) {i : Instr} {t : State}
    (fetched : fetch (ppuPhase s) = (i, t)) : step s = onNext (onNext (exec i t) countDown) nmiPhase := by
  rw [step_of_ready ready, slotPhase_of_idle (s := ppuPhase s) tick idle,
    cpuClock_of_no_count (s := ppuPhase s) count, fetched]

/-- Settles O8: what the fetch gives is what the bytes decode to. -/
theorem stepRunsTheDecodedInstruction : Obligations.StepRunsTheDecodedInstruction := by
  unfold Obligations.StepRunsTheDecodedInstruction
  intro s ready tick idle count
  refine ⟨?_, fun i rest ok memory => ?_⟩
  · intro o l h
    obtain ⟨i, rest, ok⟩ := decode_three o.1 l.1 h.1
    exact ⟨i, rest, ok, step_of_dispatch ready tick idle count (fetch_eq_of_decode (ppuPhase s) ok)⟩
  · refine step_of_dispatch ready tick idle count
      (fetch_eq_of_reads (bytes := fun k => s.peek (s.cpu.pc + BitVec.ofNat 16 k)) (rest := rest) ?_ fun k hk => ?_)
    · rw [BitVec.add_zero]
      exact ok
    · have byte : (ppuPhase s).peek (s.cpu.pc + BitVec.ofNat 16 k) = s.peek (s.cpu.pc + BitVec.ofNat 16 k) :=
        peek_memory (s := s) (t := ppuPhase s) rfl rfl (memory k hk)
      rw [← byte]
      exact memRead_memory (ppuPhase s) (memory k hk)

end Sys2Proof.Machine
end

section
/-! The load, store and transfer family: what the dispatch leaves around an operation that keeps PC, the count and what the
resolver left, and what each of the three kinds of operation writes. -/

namespace Sys2Proof.Machine

/-! ### The dispatch around an operation on A, X, Y, S and P -/

/-- Every form of a documented mnemonic is one of its mnemonic's row in R146. -/
theorem formOf_mem_of_documented {i : Instr} (documented : i.mnemonic ≠ .illegal) : formOf i ∈ specForms i.mnemonic := by
  refine formOf_mem_specForms ?_
  cases i with
  | illegal b => exact absurd rfl documented
  | _ => rfl

theorem OutsideCpuSame.trans {s t u : State} (h : OutsideCpuSame s t) (g : OutsideCpuSame t u) : OutsideCpuSame s u :=
  ⟨g.ppu.trans h.ppu, g.dma.trans h.dma, g.ram.trans h.ram, g.pads.trans h.pads, g.cart.trans h.cart,
    g.ticks.trans h.ticks, g.ready.trans h.ready⟩

theorem setFlag_setFlag_same (f : Flag) (b : Bool) (p : Byte) : setFlag f b (setFlag f b p) = setFlag f b p :=
  eq_of_getFlag fun g => by
    simp only [getFlag_setFlag]
    split <;> rfl

/-! Here an operation wrote A, X, Y, S and P at most, and left in `penalty_eligible` whether the page penalty can apply. -/

section
variable {i : Instr} {s t : State} {a x y sp p : Byte} {eligible : Bool}
  (cpu : t.cpu = { (prepare i s).cpu with a := a, x := x, y := y, sp := sp, p := p, penaltyEligible := eligible })
include cpu

theorem finishInstr_pc_of_cpu : (finishInstr t).cpu.pc = pcAfter i s := by
  simp [cpu, pcAfter]

theorem finishInstr_cycles_of_cpu : (finishInstr t).cpu.cycles = clocks i eligible s := by
  simp [cpu, clocks]

theorem finishInstr_dispatched_of_cpu : Dispatched i eligible s (finishInstr t) := by
  constructor <;> simp [cpu]

end

/-- An operation that leaves `penalty_eligible` alone is not penalised (R176). -/
theorem finishInstr_dispatched_ineligible {i : Instr} {s t : State} {a x y sp p : Byte}
    (cpu : t.cpu = { (prepare i s).cpu with a := a, x := x, y := y, sp := sp, p := p }) :
    Dispatched i false s (finishInstr t) := by
  simpa only [prepare_penaltyEligible] using finishInstr_dispatched_of_cpu cpu

/-! ### Loads -/

section
variable {n : Mnemonic} (load : n = .lda ∨ n = .ldx ∨ n = .ldy) (m : Mode) (s : State)
include load

/-- A load writes its register, Z and N, and asks for the page penalty (R201 to R203). -/
theorem operation_load_cpu :
    (Mnemonic.operation n m s).cpu =
      { s.cpu with
        a := if n = .lda then (operand m s).1 else s.cpu.a
        x := if n = .ldx then (operand m s).1 else s.cpu.x
        y := if n = .ldy then (operand m s).1 else s.cpu.y
        p := setZN (operand m s).1 s.cpu.p
        penaltyEligible := true } := by
  rw [← operand_cpu s m]
  rcases load with rfl | rfl | rfl <;> rfl

/-- Outside the CPU a load does what its read does. -/
theorem operation_load_outside : OutsideCpuSame (operand m s).2 (Mnemonic.operation n m s) := by
  rcases load with rfl | rfl | rfl <;> exact ⟨rfl, rfl, rfl, rfl, rfl, rfl, rfl⟩

end

/-- Settles O13: a load is one operand read, and the dispatch adds to what it writes nothing but U and the penalty. -/
theorem loadInstructions : Obligations.LoadInstructions := by
  unfold Obligations.LoadInstructions
  intro i s load r
  have cpu := operation_load_cpu load i.mode (prepare i s)
  have outside := (operation_load_outside load i.mode (prepare i s)).trans (finishInstr_outside _)
  have documented : i.mnemonic ≠ .illegal := by rcases load with h | h | h <;> simp [h]
  refine ⟨formOf_mem_of_documented documented, _, exec_next s i, by simp [cpu, r], by simp [cpu, r], by simp [cpu, r],
    by simp [cpu], finishInstr_pc_of_cpu cpu, fun f => ?_, finishInstr_cycles_of_cpu cpu,
    finishInstr_dispatched_of_cpu cpu, outside, (operand_prepare_memories s i).trans outside.memories⟩
  cases f <;> simp [cpu, r]

/-! ### Stores -/

/-- A store writes its register to the resolved address (R204 to R206). -/
theorem operation_store {n : Mnemonic} (store : n = .sta ∨ n = .stx ∨ n = .sty) (m : Mode) (s : State) :
    Mnemonic.operation n m s =
      memWrite s.cpu.absAddr (if n = .sta then s.cpu.a else if n = .stx then s.cpu.x else s.cpu.y) s := by
  rcases store with rfl | rfl | rfl <;> rfl

theorem StoredByte.of_outside {a : Word} {d : Byte} {u t t' : State} (h : StoredByte a d u t)
    (same : OutsideCpuSame t t') : StoredByte a d u t' where
  stored wf low := by rw [State.ramByte, same.ram]; exact h.stored wf low
  kept b other := by rw [State.ramByte, same.ram]; exact h.kept b other
  ppu := same.ppu.trans h.ppu
  dma := same.dma.trans h.dma
  pads := same.pads.trans h.pads
  cart := same.cart.trans h.cart
  ticks := same.ticks.trans h.ticks
  ready := same.ready.trans h.ready

/-- Settles O14: a store is one bus write at the resolved address, which the dispatch leaves as it is. -/
theorem storeInstructions : Obligations.StoreInstructions := by
  unfold Obligations.StoreInstructions
  intro i s store d
  have wrote : Mnemonic.operation i.mnemonic i.mode (prepare i s) = memWrite (prepare i s).cpu.absAddr d (prepare i s) := by
    simp only [operation_store store, prepare_a, prepare_x, prepare_y, d]
  have cpu := memWrite_cpu (prepare i s).cpu.absAddr d (prepare i s)
  have documented : i.mnemonic ≠ .illegal := by rcases store with h | h | h <;> simp [h]
  refine ⟨formOf_mem_of_documented documented, _, exec_next s i, ?_⟩
  rw [wrote]
  refine ⟨by simp [RegistersSame], finishInstr_pc_of_cpu cpu, by simp [setFlag_setFlag_same], by simp,
    finishInstr_dispatched_ineligible cpu, prepare_memories s i,
    (memWrite_stored (prepare i s) _ d).of_outside (finishInstr_outside _)⟩

/-! ### Transfers -/

/-- The register each transfer reads (R207 to R212). -/
def transferred (i : Instr) (c : Cpu) : Byte :=
  if i = .tax ∨ i = .tay then c.a else if i = .tsx then c.sp else if i = .tya then c.y else c.x

section
variable {i : Instr} (transfer : i ∈ [Instr.tax, .tay, .tsx, .txa, .txs, .tya]) (s : State)
include transfer

/-- The transfers are documented rows in IMP, of two clocks (R207 to R212). -/
theorem transfer_row : i.mode = .imp ∧ i.row.baseCycles = 2 ∧ i.mnemonic ≠ .illegal := by
  fin_cases transfer <;> exact ⟨rfl, rfl, nofun⟩

/-- A transfer writes its destination and, but for TXS, Z and N (R207 to R212). -/
theorem operation_transfer_cpu :
    (Mnemonic.operation i.mnemonic i.mode s).cpu =
      { s.cpu with
        a := if i = .txa ∨ i = .tya then transferred i s.cpu else s.cpu.a
        x := if i = .tax ∨ i = .tsx then transferred i s.cpu else s.cpu.x
        y := if i = .tay then transferred i s.cpu else s.cpu.y
        sp := if i = .txs then transferred i s.cpu else s.cpu.sp
        p := if i = .txs then s.cpu.p else setZN (transferred i s.cpu) s.cpu.p } := by
  fin_cases transfer <;> rfl

theorem operation_transfer_outside : OutsideCpuSame s (Mnemonic.operation i.mnemonic i.mode s) := by
  fin_cases transfer <;> exact ⟨rfl, rfl, rfl, rfl, rfl, rfl, rfl⟩

end

/-- Settles O15: a transfer resolves nothing and reads nothing, so its register writes are all it adds to the dispatch. -/
theorem transferInstructions : Obligations.TransferInstructions := by
  unfold Obligations.TransferInstructions
  intro i s transfer moved
  obtain ⟨imp, base, documented⟩ := transfer_row transfer
  have cpu := operation_transfer_cpu transfer (prepare i s)
  have source : transferred i (prepare i s).cpu = moved := by simp [transferred, moved]
  rw [source] at cpu
  have outside : OutsideCpuSame s (finishInstr (Mnemonic.operation i.mnemonic i.mode (prepare i s))) :=
    (prepare_outside s (by simp [imp])).trans
      ((operation_transfer_outside transfer _).trans (finishInstr_outside _))
  refine ⟨formOf_mem_of_documented documented, _, exec_next s i, by simp [cpu], by simp [cpu], by simp [cpu],
    by simp [cpu], ?_, fun f => ?_, by simp [cpu, base], finishInstr_dispatched_ineligible cpu, outside,
    outside.memories⟩
  · rw [finishInstr_pc_of_cpu cpu, pcAfter, imp]
    rfl
  · rw [finishInstr_p, cpu]
    by_cases txs : i = .txs <;> cases f <;> simp [txs]

end Sys2Proof.Machine
end

section
/-! The arithmetic family: what the flags of the 8-bit add of R230 mean, and what ADC and SBC, the memory increments and
the register increments write inside the dispatch. -/

namespace Sys2Proof.Machine

/-! ### The 8-bit add -/

theorem getLsbD_seven_eq (b : Byte) : b.getLsbD 7 = decide (128 ≤ b.toNat) := by
  simpa [BitVec.msb_eq_getLsbD_last] using BitVec.msb_eq_decide b

theorem xor_ff_toNat (m : Byte) : (m ^^^ 0xFF).toNat = 255 - m.toNat := by
  rw [show (0xFF : Byte) = BitVec.allOnes 8 from rfl, BitVec.xor_allOnes, BitVec.toNat_not]

theorem addResult_toNat (a m : Byte) (c : Bool) : (addResult a m c).toNat = (a.toNat + m.toNat + c.toNat) % 256 :=
  BitVec.toNat_ofNat _ _

/-- V is set when both operands have one sign and the result has the other (R230). -/
theorem getFlag_v_addFlags (a m p : Byte) :
    getFlag .v (addFlags a m p) =
      (a.getLsbD 7 == m.getLsbD 7 && a.getLsbD 7 != (addResult a m (getFlag .c p)).getLsbD 7) := by
  rw [getFlag_addFlags, if_pos rfl, BitVec.getLsbD_and, BitVec.getLsbD_not, BitVec.getLsbD_xor, BitVec.getLsbD_xor]
  cases a.getLsbD 7 <;> cases m.getLsbD 7 <;> rfl

theorem getFlag_c_addFlags (a m p : Byte) :
    getFlag .c (addFlags a m p) = decide (0xFF < a.toNat + m.toNat + (getFlag .c p).toNat) := by
  rw [getFlag_addFlags]
  rfl

/-- V says that the signed sum, carry included, is no byte: the result has the wrong sign exactly then. -/
theorem getFlag_v_addFlags_eq_decide (a m p : Byte) :
    getFlag .v (addFlags a m p) =
      decide (a.toInt + m.toInt + (getFlag .c p).toNat < -128 ∨ 127 < a.toInt + m.toInt + (getFlag .c p).toNat) := by
  have ha := a.isLt
  have hm := m.isLt
  have hc := Bool.toNat_le (getFlag .c p)
  rw [getFlag_v_addFlags, BitVec.toInt_eq_toNat_cond, BitVec.toInt_eq_toNat_cond, Bool.eq_iff_iff]
  simp only [getLsbD_seven_eq, addResult_toNat, Bool.and_eq_true, beq_iff_eq, bne_iff_ne, ne_eq, decide_eq_decide,
    decide_eq_true_eq]
  split <;> split <;> omega

/-- The complement SBC adds is one below the negation, as a signed byte (R232). -/
theorem toInt_xor_ff (m : Byte) : (m ^^^ 0xFF).toInt = -1 - m.toInt := by
  have := m.isLt
  rw [BitVec.toInt_eq_toNat_cond, BitVec.toInt_eq_toNat_cond, xor_ff_toNat]
  split <;> split <;> omega

/-- Settles O17: SBC's operand is -1 - m in both readings, so the borrow is what the carry lacks. -/
theorem overflowAndBorrowMeaning : Obligations.OverflowAndBorrowMeaning := by
  unfold Obligations.OverflowAndBorrowMeaning
  intro a m p c
  refine ⟨getFlag_v_addFlags_eq_decide a m p, ?_, ?_⟩
  · have := m.isLt
    rw [getFlag_c_addFlags, xor_ff_toNat, decide_eq_decide]
    omega
  · have difference : a.toInt + (m ^^^ 0xFF).toInt + c = a.toInt - m.toInt - (1 - c) := by
      rw [toInt_xor_ff]
      omega
    rw [getFlag_v_addFlags_eq_decide, difference]

/-! ### ADC and SBC -/

/-- The byte ADC and SBC hand to the add (R231, R232). -/
def addend (n : Mnemonic) (m : Byte) : Byte := if n = .adc then m else m ^^^ 0xFF

section
variable {n : Mnemonic} (add : n = .adc ∨ n = .sbc) (m : Mode) (s : State)
include add

/-- ADC and SBC write the sum to A, its flags to P, and ask for the page penalty (R230 to R232). -/
theorem operation_add_cpu :
    (Mnemonic.operation n m s).cpu =
      { s.cpu with
        a := addResult s.cpu.a (addend n (operand m s).1) (getFlag .c s.cpu.p)
        p := addFlags s.cpu.a (addend n (operand m s).1) s.cpu.p
        penaltyEligible := true } := by
  rw [← operand_cpu s m]
  rcases add with rfl | rfl <;> rfl

/-- Outside the CPU they do what their read does. -/
theorem operation_add_outside : OutsideCpuSame (operand m s).2 (Mnemonic.operation n m s) := by
  rcases add with rfl | rfl <;> exact ⟨rfl, rfl, rfl, rfl, rfl, rfl, rfl⟩

end

/-- The sum of R230 does not look at U, which the dispatch has set before it. -/
theorem getFlag_c_setFlag_u (b : Bool) (p : Byte) : getFlag .c (setFlag .u b p) = getFlag .c p := by simp

theorem operation_add_prepare_cpu {i : Instr} (add : i.mnemonic = .adc ∨ i.mnemonic = .sbc) (s : State) :
    (Mnemonic.operation i.mnemonic i.mode (prepare i s)).cpu =
      let m := addend i.mnemonic (operand i.mode (prepare i s)).1
      { (prepare i s).cpu with
        a := addResult s.cpu.a m (getFlag .c s.cpu.p)
        p := addFlags s.cpu.a m (setFlag .u true s.cpu.p)
        penaltyEligible := true } := by
  rw [operation_add_cpu add, prepare_a, prepare_p, getFlag_c_setFlag_u]

theorem addResult_eq_ofNat (a m : Byte) (c : Bool) :
    addResult a m c = BitVec.ofNat 8 ((a.toNat + m.toNat + c.toNat) % 256) :=
  BitVec.eq_of_toNat_eq (by simp [addResult_toNat])

/-- Settles O16: one operand read, then the add, whose carry the dispatch's own write of U does not touch. -/
theorem addWithCarryInstructions : Obligations.AddWithCarryInstructions := by
  unfold Obligations.AddWithCarryInstructions
  intro i s add r m sum result
  have cpu := operation_add_prepare_cpu add s
  have addend_eq : addend i.mnemonic (operand i.mode (prepare i s)).1 = m := rfl
  have result_eq : addResult s.cpu.a m (getFlag .c s.cpu.p) = result := addResult_eq_ofNat _ _ _
  simp only [addend_eq, result_eq] at cpu
  have outside := (operation_add_outside add i.mode (prepare i s)).trans (finishInstr_outside _)
  have documented : i.mnemonic ≠ .illegal := by rcases add with h | h <;> simp [h]
  refine ⟨formOf_mem_of_documented documented, _, exec_next s i, by simp [cpu], by simp [cpu], by simp [cpu],
    by simp [cpu], finishInstr_pc_of_cpu cpu, fun f => ?_, finishInstr_cycles_of_cpu cpu,
    finishInstr_dispatched_of_cpu cpu, outside, (operand_prepare_memories s i).trans outside.memories⟩
  rw [finishInstr_p, cpu, getFlag_setFlag]
  cases f with
  | v => simp [getFlag_v_addFlags, result_eq]
  | c => simp [getFlag_c_addFlags, sum]
  | _ => simp [getFlag_addFlags, result_eq]

/-! ### The ADC/SBC round trip -/

/-- The state an instruction leaves: none stops. -/
def executed (i : Instr) (s : State) : State := finishInstr (Mnemonic.operation i.mnemonic i.mode (prepare i s))

theorem execAll_cons (i : Instr) (is : List Instr) (s : State) : execAll (i :: is) s = execAll is (executed i s) := by
  rw [execAll, exec_next]
  rfl

section
variable (s : State)

theorem executed_clc_a : (executed .clc s).cpu.a = s.cpu.a := (finishInstr_a _).trans (prepare_a s .clc)

theorem executed_sec_a : (executed .sec s).cpu.a = s.cpu.a := (finishInstr_a _).trans (prepare_a s .sec)

theorem executed_clc_carry : getFlag .c (executed .clc s).cpu.p = false := by
  rw [executed, finishInstr_p, getFlag_c_setFlag_u]
  exact getFlag_setFlag .c .c false _

theorem executed_sec_carry : getFlag .c (executed .sec s).cpu.p = true := by
  rw [executed, finishInstr_p, getFlag_c_setFlag_u]
  exact getFlag_setFlag .c .c true _

theorem executed_add_a {i : Instr} (add : i.mnemonic = .adc ∨ i.mnemonic = .sbc) :
    (executed i s).cpu.a =
      addResult s.cpu.a (addend i.mnemonic (operand i.mode (prepare i s)).1) (getFlag .c s.cpu.p) := by
  rw [executed, finishInstr_a, operation_add_prepare_cpu add]

theorem executed_add_carry {i : Instr} (add : i.mnemonic = .adc ∨ i.mnemonic = .sbc) :
    getFlag .c (executed i s).cpu.p =
      decide (0xFF < s.cpu.a.toNat + (addend i.mnemonic (operand i.mode (prepare i s)).1).toNat +
        (getFlag .c s.cpu.p).toNat) := by
  rw [executed, finishInstr_p, getFlag_c_setFlag_u, operation_add_prepare_cpu add, getFlag_c_addFlags,
    getFlag_c_setFlag_u]

theorem executed_adcImm_a (v : Byte) : (executed (.adcImm v) s).cpu.a = addResult s.cpu.a v (getFlag .c s.cpu.p) :=
  executed_add_a s (.inl rfl)

theorem executed_adcImm_carry (v : Byte) :
    getFlag .c (executed (.adcImm v) s).cpu.p = decide (0xFF < s.cpu.a.toNat + v.toNat + (getFlag .c s.cpu.p).toNat) :=
  executed_add_carry s (.inl rfl)

theorem executed_sbcImm_a (v : Byte) :
    (executed (.sbcImm v) s).cpu.a = addResult s.cpu.a (v ^^^ 0xFF) (getFlag .c s.cpu.p) :=
  executed_add_a s (.inr rfl)

end

/-- Adding v without a carry, then its complement with one, adds 256. -/
theorem addResult_addResult_complement (a v : Byte) : addResult (addResult a v false) (v ^^^ 0xFF) true = a := by
  have ha := a.isLt
  have hv := v.isLt
  apply BitVec.eq_of_toNat_eq
  rw [addResult_toNat, addResult_toNat, xor_ff_toNat, Bool.toNat_false, Bool.toNat_true]
  omega

/-- Settles O18: with CLC and SEC the two adds cancel; without the SEC, 0x10 + 0x05 has left the carry clear, and SBC
borrows. -/
theorem adcSbcRoundTrip : Obligations.AdcSbcRoundTrip := by
  unfold Obligations.AdcSbcRoundTrip
  constructor
  · intro v s
    rw [execAll_cons, execAll_cons, execAll_cons, execAll_cons, execAll]
    refine ⟨_, rfl, ?_⟩
    rw [executed_sbcImm_a, executed_sec_carry, executed_sec_a, executed_adcImm_a, executed_clc_carry, executed_clc_a]
    exact addResult_addResult_complement s.cpu.a v
  · intro s a
    rw [execAll_cons, execAll_cons, execAll_cons, execAll]
    refine ⟨_, rfl, ?_⟩
    rw [executed_sbcImm_a, executed_adcImm_carry, executed_adcImm_a, executed_clc_carry, executed_clc_a, a]
    decide

/-! ### INC and DEC -/

theorem add_one_eq_ofNat (b : Byte) : b + 1 = BitVec.ofNat 8 ((b.toNat + 1) % 256) :=
  BitVec.eq_of_toNat_eq (by simp)

theorem sub_one_eq_ofNat (b : Byte) : b - 1 = BitVec.ofNat 8 ((b.toNat + 255) % 256) :=
  BitVec.eq_of_toNat_eq (by simp [BitVec.toNat_sub, Nat.add_comm])

/-- The byte plus or minus one modulo 256 (R233 to R238). -/
def stepped (up : Prop) [Decidable up] (b : Byte) : Byte := BitVec.ofNat 8 ((b.toNat + if up then 1 else 255) % 256)

theorem stepped_up {up : Prop} [Decidable up] (h : up) (b : Byte) : stepped up b = b + 1 := by
  rw [stepped, if_pos h, add_one_eq_ofNat]

theorem stepped_down {up : Prop} [Decidable up] (h : ¬ up) (b : Byte) : stepped up b = b - 1 := by
  rw [stepped, if_neg h, sub_one_eq_ofNat]

/-- INC and DEC have no form in A. -/
theorem mode_ne_acc_of_memoryIncrement {i : Instr} (increment : i.mnemonic = .inc ∨ i.mnemonic = .dec) :
    i.mode ≠ .acc := by
  intro acc
  rcases increment with h | h
  all_goals
    have listed : formOf i ∈ specForms i.mnemonic := formOf_mem_of_documented (by simp [h])
    simp [formOf, specForms, modeName, h, acc] at listed

theorem operation_memoryIncrement {n : Mnemonic} (increment : n = .inc ∨ n = .dec) (m : Mode) (s : State) :
    Mnemonic.operation n m s = modify (stepped (n = .inc)) m s := by
  rcases increment with rfl | rfl
  · rw [funext (stepped_up rfl)]
    rfl
  · rw [funext (stepped_down nofun)]
    rfl

section
variable {m : Mode} (memory : m ≠ .acc) (f : Byte → Byte) (s : State)
include memory

/-- Outside A, a read-modify-write writes P and no other register. -/
theorem modify_cpu : (modify f m s).cpu = { s.cpu with p := setZN (f (operand m s).1) s.cpu.p } := by
  simp [modify, writeback_memory _ memory, State.setP]

/-- Outside A, a read-modify-write does no more after its read than write the new byte where it read. -/
theorem modify_outside :
    OutsideCpuSame (memWrite s.cpu.absAddr (f (operand m s).1) (operand m s).2) (modify f m s) := by
  simp only [modify, writeback_memory _ memory, operand_cpu]
  exact ⟨rfl, rfl, rfl, rfl, rfl, rfl, rfl⟩

end

/-- Settles O19: no form is in A, so the operation is one read and one write of the resolved address. -/
theorem memoryIncrementInstructions : Obligations.MemoryIncrementInstructions := by
  unfold Obligations.MemoryIncrementInstructions
  intro i s increment r d
  have memory := mode_ne_acc_of_memoryIncrement increment
  have cpu := modify_cpu memory (stepped (i.mnemonic = .inc)) (prepare i s)
  have outside := (modify_outside memory (stepped (i.mnemonic = .inc)) (prepare i s)).trans (finishInstr_outside _)
  have stepped_eq : stepped (i.mnemonic = .inc) (operand i.mode (prepare i s)).1 = d := rfl
  rw [stepped_eq] at cpu outside
  have documented : i.mnemonic ≠ .illegal := by rcases increment with h | h <;> simp [h]
  refine ⟨formOf_mem_of_documented documented, _, exec_next s i, ?_⟩
  rw [operation_memoryIncrement increment]
  refine ⟨by simp [RegistersSame, cpu], finishInstr_pc_of_cpu cpu, fun f => ?_, by simp [cpu],
    finishInstr_dispatched_ineligible cpu, operand_prepare_memories s i, (memWrite_stored r.2 _ d).of_outside outside⟩
  rw [finishInstr_p, cpu]
  cases f <;> simp

/-! ### INX, INY, DEX, DEY -/

section
variable {i : Instr} (increment : i ∈ [Instr.inx, .iny, .dex, .dey]) (s : State)
include increment

/-- The register increments are documented rows in IMP, of two clocks (R234, R235, R237, R238). -/
theorem registerIncrement_row : i.mode = .imp ∧ i.row.baseCycles = 2 ∧ i.mnemonic ≠ .illegal := by
  fin_cases increment <;> exact ⟨rfl, rfl, nofun⟩

/-- A register increment writes its register, and Z and N of the new value. -/
theorem operation_registerIncrement_cpu :
    (Mnemonic.operation i.mnemonic i.mode s).cpu =
      let d := stepped (i = .inx ∨ i = .iny) (if i = .inx ∨ i = .dex then s.cpu.x else s.cpu.y)
      { s.cpu with
        x := if i = .inx ∨ i = .dex then d else s.cpu.x
        y := if i = .iny ∨ i = .dey then d else s.cpu.y
        p := setZN d s.cpu.p } := by
  fin_cases increment
  · rw [stepped_up (by simp)]; rfl
  · rw [stepped_up (by simp)]; rfl
  · rw [stepped_down (by simp)]; rfl
  · rw [stepped_down (by simp)]; rfl

theorem operation_registerIncrement_outside : OutsideCpuSame s (Mnemonic.operation i.mnemonic i.mode s) := by
  fin_cases increment <;> exact ⟨rfl, rfl, rfl, rfl, rfl, rfl, rfl⟩

end

/-- Settles O20: a register increment resolves nothing and reads nothing. -/
theorem registerIncrementInstructions : Obligations.RegisterIncrementInstructions := by
  unfold Obligations.RegisterIncrementInstructions
  intro i s increment old d
  obtain ⟨imp, base, documented⟩ := registerIncrement_row increment
  have cpu := operation_registerIncrement_cpu increment (prepare i s)
  have result : stepped (i = .inx ∨ i = .iny)
      (if i = .inx ∨ i = .dex then (prepare i s).cpu.x else (prepare i s).cpu.y) = d := by
    rw [prepare_x, prepare_y]
    rfl
  rw [result] at cpu
  have outside : OutsideCpuSame s (finishInstr (Mnemonic.operation i.mnemonic i.mode (prepare i s))) :=
    (prepare_outside s (by simp [imp])).trans
      ((operation_registerIncrement_outside increment _).trans (finishInstr_outside _))
  refine ⟨formOf_mem_of_documented documented, _, exec_next s i, by simp [cpu], by simp [cpu], by simp [cpu],
    by simp [cpu], ?_, fun f => ?_, by simp [cpu, base], finishInstr_dispatched_ineligible cpu, outside,
    outside.memories⟩
  · rw [finishInstr_pc_of_cpu cpu, pcAfter, imp]
    rfl
  · rw [finishInstr_p, cpu]
    cases f <;> simp

end Sys2Proof.Machine
end

section
/-! The logic family: what AND, ORA, EOR and BIT write inside the dispatch. -/

namespace Sys2Proof.Machine

/-! ### AND, ORA, EOR -/

/-- The byte AND, ORA and EOR write to A (R250 to R252). -/
def combined (n : Mnemonic) (a m : Byte) : Byte :=
  if n = .and then a &&& m else if n = .ora then a ||| m else a ^^^ m

theorem getLsbD_combined (n : Mnemonic) (a m : Byte) (k : Nat) :
    (combined n a m).getLsbD k =
      if n = .and then a.getLsbD k && m.getLsbD k
      else if n = .ora then a.getLsbD k || m.getLsbD k
      else a.getLsbD k != m.getLsbD k := by
  unfold combined
  split
  · exact BitVec.getLsbD_and
  · split
    · exact BitVec.getLsbD_or
    · exact BitVec.getLsbD_xor

section
variable {n : Mnemonic} (logic : n = .and ∨ n = .ora ∨ n = .eor) (m : Mode) (s : State)
include logic

/-- AND, ORA and EOR write the combined byte to A, its Z and N to P, and ask for the page penalty (R250 to R252). -/
theorem operation_logic_cpu :
    (Mnemonic.operation n m s).cpu =
      { s.cpu with
        a := combined n s.cpu.a (operand m s).1
        p := setZN (combined n s.cpu.a (operand m s).1) s.cpu.p
        penaltyEligible := true } := by
  rw [← operand_cpu s m]
  rcases logic with rfl | rfl | rfl <;> rfl

/-- Outside the CPU they do what their read does. -/
theorem operation_logic_outside : OutsideCpuSame (operand m s).2 (Mnemonic.operation n m s) := by
  rcases logic with rfl | rfl | rfl <;> exact ⟨rfl, rfl, rfl, rfl, rfl, rfl, rfl⟩

end

/-- Settles O21: one operand read, then the bitwise result, whose Z and N the dispatch's own write of U does not touch. -/
theorem logicInstructions : Obligations.LogicInstructions := by
  unfold Obligations.LogicInstructions
  intro i s logic r
  have cpu := operation_logic_cpu logic i.mode (prepare i s)
  have outside := (operation_logic_outside logic i.mode (prepare i s)).trans (finishInstr_outside _)
  have a : (finishInstr (Mnemonic.operation i.mnemonic i.mode (prepare i s))).cpu.a =
      combined i.mnemonic s.cpu.a r.1 := by
    rw [finishInstr_a, cpu, prepare_a]
  have documented : i.mnemonic ≠ .illegal := by rcases logic with h | h | h <;> simp [h]
  refine ⟨formOf_mem_of_documented documented, _, exec_next s i, fun k _ => by rw [a, getLsbD_combined],
    by simp [cpu], by simp [cpu], by simp [cpu], finishInstr_pc_of_cpu cpu, fun f => ?_,
    finishInstr_cycles_of_cpu cpu, finishInstr_dispatched_of_cpu cpu, outside,
    (operand_prepare_memories s i).trans outside.memories⟩
  rw [a, finishInstr_p, cpu, prepare_a]
  cases f <;> simp [r]

/-! ### BIT -/

/-- BIT writes P and no other register (R253). -/
theorem operation_bit_cpu (m : Mode) (s : State) :
    (Mnemonic.operation .bit m s).cpu = { s.cpu with p := bitFlags s.cpu.a (operand m s).1 s.cpu.p } := by
  rw [← operand_cpu s m]
  rfl

/-- Outside the CPU BIT does what its read does. -/
theorem operation_bit_outside (m : Mode) (s : State) :
    OutsideCpuSame (operand m s).2 (Mnemonic.operation .bit m s) :=
  ⟨rfl, rfl, rfl, rfl, rfl, rfl, rfl⟩

/-- Settles O22: one operand read and a write of P, with no page penalty to ask for. -/
theorem bitInstruction : Obligations.BitInstruction := by
  unfold Obligations.BitInstruction
  intro i s bit r
  have cpu := operation_bit_cpu i.mode (prepare i s)
  have outside := (operation_bit_outside i.mode (prepare i s)).trans (finishInstr_outside _)
  refine ⟨formOf_mem_of_documented (by simp [bit]), _, exec_next s i, ?_⟩
  rw [bit]
  refine ⟨by simp [RegistersSame, cpu], finishInstr_pc_of_cpu cpu, fun f => ?_, by simp [cpu],
    finishInstr_dispatched_ineligible cpu, outside, (operand_prepare_memories s i).trans outside.memories⟩
  rw [finishInstr_p, cpu, prepare_a, getFlag_setFlag, getFlag_bitFlags]
  cases f <;> simp [r]

end Sys2Proof.Machine
end

section
/-! The shift and rotate family: the byte and the carry that ASL, LSR, ROL and ROR make of their operand, and what they
write inside the dispatch, on A and on memory. -/

namespace Sys2Proof.Machine

/-! ### One bit left or right -/

theorem getLsbD_zero_eq (b : Byte) : b.getLsbD 0 = decide (b.toNat % 2 = 1) := Nat.testBit_zero b.toNat

theorem shiftLeft_one_toNat (m : Byte) : (m <<< 1).toNat = 2 * m.toNat % 256 := by
  rw [BitVec.toNat_shiftLeft, Nat.shiftLeft_eq, Nat.mul_comm]

theorem shiftRight_one_toNat (m : Byte) : (m >>> 1).toNat = m.toNat / 2 := by
  rw [BitVec.toNat_ushiftRight, Nat.shiftRight_eq_div_pow]

/-- The bit that a rotate left fills was left clear by the shift (R263). -/
theorem setBit_zero_shiftLeft_toNat : ∀ (c : Bool) (m : Byte),
    (setBit 0 c (m <<< 1)).toNat = (2 * m.toNat + c.toNat) % 256 := by decide

/-- The bit that a rotate right fills was left clear by the shift (R264). -/
theorem setBit_seven_shiftRight_toNat : ∀ (c : Bool) (m : Byte),
    (setBit 7 c (m >>> 1)).toNat = m.toNat / 2 + 128 * c.toNat := by decide

/-! ### The shifted byte -/

section
variable (n : Mnemonic) (c : Bool) (m : Byte)

/-- The result and the new carry of R261 to R264, the result as a byte. -/
def shiftedByte : Byte × Bool := (BitVec.ofNat 8 (shifted n c m).1, (shifted n c m).2)

theorem shifted_lt : (shifted n c m).1 < 256 := by
  have hm := m.isLt
  have hc := c.toNat_le
  unfold shifted
  split <;> dsimp only <;> omega

theorem shiftedByte_toNat : (shiftedByte n c m).1.toNat = (shifted n c m).1 :=
  (BitVec.toNat_ofNat _ _).trans (Nat.mod_eq_of_lt (shifted_lt n c m))

variable {n c m} in
theorem eq_shiftedByte {r : Byte × Bool} (byte : r.1.toNat = (shifted n c m).1) (carry : r.2 = (shifted n c m).2) :
    r = shiftedByte n c m :=
  Prod.ext (BitVec.eq_of_toNat_eq (byte.trans (shiftedByte_toNat n c m).symm)) carry

theorem aslByte_eq : aslByte m = shiftedByte .asl c m := eq_shiftedByte (shiftLeft_one_toNat m) (getLsbD_seven_eq m)

theorem lsrByte_eq : lsrByte m = shiftedByte .lsr c m := eq_shiftedByte (shiftRight_one_toNat m) (getLsbD_zero_eq m)

theorem rolByte_eq : rolByte c m = shiftedByte .rol c m :=
  eq_shiftedByte (setBit_zero_shiftLeft_toNat c m) (getLsbD_seven_eq m)

theorem rorByte_eq : rorByte c m = shiftedByte .ror c m :=
  eq_shiftedByte (setBit_seven_shiftRight_toNat c m) (getLsbD_zero_eq m)

/-- C, Z and N after a shift, by its numbers (R261 to R264). -/
theorem getFlag_shiftFlags_shiftedByte (f : Flag) (p : Byte) :
    getFlag f (shiftFlags (shiftedByte n c m) p) =
      if f = .n then decide (128 ≤ (shifted n c m).1)
      else if f = .z then decide ((shifted n c m).1 = 0)
      else if f = .c then (shifted n c m).2
      else getFlag f p := by
  have zero : ((shiftedByte n c m).1 == 0) = decide ((shifted n c m).1 = 0) := by
    rw [← shiftedByte_toNat, Bool.eq_iff_iff, beq_iff_eq, decide_eq_true_iff, ← BitVec.toNat_inj]
    rfl
  rw [getFlag_shiftFlags, zero, getLsbD_seven_eq, shiftedByte_toNat]
  rfl

end

/-! ### The operation -/

theorem documented_of_shift {i : Instr}
    (shift : i.mnemonic = .asl ∨ i.mnemonic = .lsr ∨ i.mnemonic = .rol ∨ i.mnemonic = .ror) :
    i.mnemonic ≠ .illegal := by
  rcases shift with h | h | h | h <;> simp [h]

theorem operation_shift {n : Mnemonic} (shift : n = .asl ∨ n = .lsr ∨ n = .rol ∨ n = .ror) (m : Mode) (s : State) :
    Mnemonic.operation n m s = shiftWith (shiftedByte n) m s := by
  rcases shift with rfl | rfl | rfl | rfl
  · exact congrArg (shiftWith · m s) (funext₂ aslByte_eq)
  · exact congrArg (shiftWith · m s) (funext₂ lsrByte_eq)
  · exact congrArg (shiftWith · m s) (funext₂ rolByte_eq)
  · exact congrArg (shiftWith · m s) (funext₂ rorByte_eq)

section
variable (f : Bool → Byte → Byte × Bool) (s : State)

/-- On A a shift writes A and P (R260). -/
theorem shiftWith_acc_cpu :
    (shiftWith f .acc s).cpu =
      let q := f (getFlag .c s.cpu.p) s.cpu.a
      { s.cpu with a := q.1, p := shiftFlags q s.cpu.p } := rfl

/-- On A a shift makes no bus access (R260). -/
theorem shiftWith_acc_outside : OutsideCpuSame s (shiftWith f .acc s) := ⟨rfl, rfl, rfl, rfl, rfl, rfl, rfl⟩

variable {m : Mode} (memory : m ≠ .acc)
include memory

/-- On memory a shift writes P and no other register (R260). -/
theorem shiftWith_memory_cpu :
    (shiftWith f m s).cpu =
      { s.cpu with p := shiftFlags (f (getFlag .c s.cpu.p) (operand m s).1) s.cpu.p } := by
  simp [shiftWith, writeback_memory _ memory, State.setP, State.flag]

/-- On memory a shift does no more after its read than write the new byte where it read (R260). -/
theorem shiftWith_memory_outside :
    OutsideCpuSame (memWrite s.cpu.absAddr (f (getFlag .c s.cpu.p) (operand m s).1).1 (operand m s).2)
      (shiftWith f m s) := by
  simp only [shiftWith, writeback_memory _ memory, State.flag, operand_cpu]
  exact ⟨rfl, rfl, rfl, rfl, rfl, rfl, rfl⟩

end

/-! ### On A -/

/-- The accumulator forms are shifts in ACC, of two clocks (R260). -/
theorem accumulatorShift_row {i : Instr} (shift : i ∈ [Instr.aslAcc, .lsrAcc, .rolAcc, .rorAcc]) :
    (i.mnemonic = .asl ∨ i.mnemonic = .lsr ∨ i.mnemonic = .rol ∨ i.mnemonic = .ror) ∧
      i.mode = .acc ∧ i.row.baseCycles = 2 := by
  fin_cases shift <;> exact ⟨by decide, rfl, rfl⟩

/-- Settles O23: in ACC the operand is A and the result goes back to A; the carry shifted in is the one from before the
dispatch, whose own write of U does not touch it. -/
theorem accumulatorShifts : Obligations.AccumulatorShifts := by
  unfold Obligations.AccumulatorShifts
  intro i s listed q
  obtain ⟨shift, acc, base⟩ := accumulatorShift_row listed
  have cpu := shiftWith_acc_cpu (shiftedByte i.mnemonic) (prepare i s)
  rw [prepare_p, prepare_a, getFlag_c_setFlag_u] at cpu
  have outside : OutsideCpuSame s (finishInstr (shiftWith (shiftedByte i.mnemonic) .acc (prepare i s))) :=
    (prepare_outside s (by simp [acc])).trans ((shiftWith_acc_outside _ _).trans (finishInstr_outside _))
  refine ⟨formOf_mem_of_documented (documented_of_shift shift), _, exec_next s i, ?_⟩
  rw [operation_shift shift, acc]
  refine ⟨by simp [cpu, shiftedByte, q], by simp [cpu], by simp [cpu], by simp [cpu], ?_, fun f => ?_,
    by simp [cpu, base], finishInstr_dispatched_ineligible cpu, outside, outside.memories⟩
  · rw [finishInstr_pc_of_cpu cpu, pcAfter, acc]
    rfl
  · rw [finishInstr_p, cpu]
    cases f <;> simp [getFlag_shiftFlags_shiftedByte, q]

/-! ### On memory -/

/-- Settles O24: outside ACC the operation is one read and one write of the resolved address, and P. -/
theorem memoryShifts : Obligations.MemoryShifts := by
  unfold Obligations.MemoryShifts
  intro i s shift memory r q
  have cpu := shiftWith_memory_cpu (shiftedByte i.mnemonic) (prepare i s) memory
  have outside :=
    (shiftWith_memory_outside (shiftedByte i.mnemonic) (prepare i s) memory).trans (finishInstr_outside _)
  rw [prepare_p, getFlag_c_setFlag_u] at cpu outside
  refine ⟨formOf_mem_of_documented (documented_of_shift shift), _, exec_next s i, ?_⟩
  rw [operation_shift shift]
  refine ⟨by simp [RegistersSame, cpu], finishInstr_pc_of_cpu cpu, fun f => ?_, by simp [cpu],
    finishInstr_dispatched_ineligible cpu, operand_prepare_memories s i, (memWrite_stored r.2 _ _).of_outside outside⟩
  rw [finishInstr_p, cpu]
  cases f <;> simp [getFlag_shiftFlags_shiftedByte, q, r]

end Sys2Proof.Machine
end

section
/-! The branch family: what the branch procedure writes inside the dispatch, and which flag decides it. -/

namespace Sys2Proof.Machine

/-! ### The branch procedure -/

section
variable (taken : Bool) (s : State)

/-- A branch writes PC and the count and no other register, and those only when it is taken (R270). -/
theorem branch_cpu :
    (branch taken s).cpu =
      { s.cpu with
        pc := if taken then s.cpu.pc + s.cpu.relAddr else s.cpu.pc
        cycles := s.cpu.cycles +
          if taken then if crossesPage s.cpu.pc (s.cpu.pc + s.cpu.relAddr) then 2 else 1 else 0 } := by
  cases taken <;> rfl

theorem branch_outside : OutsideCpuSame s (branch taken s) := by
  cases taken <;> exact ⟨rfl, rfl, rfl, rfl, rfl, rfl, rfl⟩

end

/-- The sign-extended offset added modulo 2^16 is the signed sum (R8, R270). -/
theorem add_sext16 (w : Word) (offset : Byte) : w + sext16 offset = BitVec.ofInt 16 (w.toNat + offset.toInt) := by
  rw [BitVec.ofInt_add, BitVec.ofInt_natCast, BitVec.ofNat_toNat, BitVec.setWidth_eq, sext16_eq_ofInt]

/-- A branch's two clocks, one more when taken and two more into another page (R270). -/
theorem branch_count (base addr : Word) (taken : Prop) [Decidable taken] :
    (2 + if taken then if crossesPage base addr then 2 else 1 else 0) =
      if taken then if hiByte addr = hiByte base then 3 else 4 else 2 := by
  split
  · by_cases page : hiByte addr = hiByte base <;> simp [crossesPage, page]
  · rfl

/-! ### The instructions that branch -/

section
variable {n : Mnemonic} {f : Flag} {want : Bool} (test : branchTest n = some (f, want))
include test

/-- A branch is taken exactly when its flag has the value it tests for (R271 to R278). -/
theorem operation_eq_branch (m : Mode) (s : State) :
    Mnemonic.operation n m s = branch (getFlag f s.cpu.p == want) s := by
  cases n with
  | bcc | bne | bpl | bvc =>
    cases test
    exact congrArg (branch · s) (beq_false _).symm
  | bcs | beq | bmi | bvs =>
    cases test
    exact congrArg (branch · s) (beq_true _).symm
  | _ => cases test

/-- The dispatch's own write of U leaves the flag that a branch tests. -/
theorem getFlag_setFlag_u_of_branchTest (b : Bool) (p : Byte) : getFlag f (setFlag .u b p) = getFlag f p := by
  have other : f ≠ .u := by
    rintro rfl
    cases n <;> cases test
  rw [getFlag_setFlag, if_neg other]

theorem documented_of_branchTest : n ≠ .illegal := by
  rintro rfl
  cases test

end

/-- The resolver of REL leaves the operand byte, sign-extended (R192). -/
theorem prepare_relAddr_of_rel {i : Instr} {offset : Byte} (rel : i.mode = .rel offset) (s : State) :
    (prepare i s).cpu.relAddr = sext16 offset := by
  rw [prepare, rel]
  rfl

/-- Settles O25: a branch resolves its offset without a bus access, and its operation writes PC and the count alone. -/
theorem branchInstructions : Obligations.BranchInstructions := by
  unfold Obligations.BranchInstructions
  intro i s offset f want rel test next target taken
  have relAddr := prepare_relAddr_of_rel rel s
  have pc : (prepare i s).cpu.pc = next := by
    rw [prepare_pc, rel]
    rfl
  have base : i.row.baseCycles = 2 := baseCycles_branch (Option.isSome_of_eq_some test)
  have cpu := branch_cpu (getFlag f s.cpu.p == want) (prepare i s)
  rw [relAddr, pc, add_sext16, prepare_cycles, base] at cpu
  simp only [beq_iff_eq] at cpu
  rw [branch_count] at cpu
  have outside : OutsideCpuSame s (finishInstr (branch (getFlag f s.cpu.p == want) (prepare i s))) :=
    (prepare_outside s (by simp [rel])).trans ((branch_outside _ _).trans (finishInstr_outside _))
  refine ⟨formOf_mem_of_documented (documented_of_branchTest test), _, exec_next s i, ?_⟩
  rw [operation_eq_branch test, prepare_p, getFlag_setFlag_u_of_branchTest test]
  have dispatched : Dispatched i false s (finishInstr (branch (getFlag f s.cpu.p == want) (prepare i s))) := by
    constructor <;> simp [cpu]
  exact ⟨by simp [RegistersSame, cpu], by simp [cpu, setFlag_setFlag_same], by simp [cpu, taken, target],
    by simp [cpu, taken, target], dispatched.relAddr.trans relAddr, dispatched, outside, outside.memories⟩

end Sys2Proof.Machine
end

section
/-! The compare family: the flags that the 16-bit difference of R280 gives, and what CMP, CPX and CPY write inside the
dispatch. -/

namespace Sys2Proof.Machine

/-! ### The compare -/

/-- The low byte of the 16-bit difference is the 8-bit difference (R280). -/
theorem lowByte_zext16_sub (r m : Byte) : (zext16 r - zext16 m).extractLsb' 0 8 = r - m := by
  refine BitVec.eq_of_toNat_eq ?_
  rw [BitVec.extractLsb'_toNat, BitVec.toNat_sub, BitVec.toNat_sub, zext16_toNat, zext16_toNat, Nat.shiftRight_zero]
  omega

/-- Z of a compare is equality of the two bytes, N is bit 7 of their difference, C is the absence of a borrow (R280). -/
theorem getFlag_compareFlags_byte (f : Flag) (r m p : Byte) :
    getFlag f (compareFlags r m p) =
      if f = .n then (r - m).getLsbD 7 else if f = .z then decide (r = m)
      else if f = .c then decide (m.toNat ≤ r.toNat) else getFlag f p := by
  have equal : (r - m == 0) = decide (r = m) := by
    rw [beq_eq_decide, decide_eq_decide]
    exact sub_eq_zero
  rw [getFlag_compareFlags, lowByte_zext16_sub, equal]

/-! ### CMP, CPX, CPY -/

/-- The register a compare compares with its operand (R281 to R283). -/
def comparand (n : Mnemonic) (c : Cpu) : Byte := if n = .cmp then c.a else if n = .cpx then c.x else c.y

theorem comparand_prepare (n : Mnemonic) (i : Instr) (s : State) :
    comparand n (prepare i s).cpu = comparand n s.cpu := by
  simp only [comparand, prepare_a, prepare_x, prepare_y]

section
variable {n : Mnemonic} (compare : n = .cmp ∨ n = .cpx ∨ n = .cpy) (m : Mode) (s : State)
include compare

/-- A compare writes P and no other register, and CMP alone asks for the page penalty (R176, R281 to R283). -/
theorem operation_compare_cpu :
    (Mnemonic.operation n m s).cpu =
      { s.cpu with
        p := compareFlags (comparand n s.cpu) (operand m s).1 s.cpu.p
        penaltyEligible := n == .cmp || s.cpu.penaltyEligible } := by
  rw [← operand_cpu s m]
  rcases compare with rfl | rfl | rfl <;> rfl

/-- Outside the CPU a compare does what its read does. -/
theorem operation_compare_outside : OutsideCpuSame (operand m s).2 (Mnemonic.operation n m s) := by
  rcases compare with rfl | rfl | rfl <;> exact ⟨rfl, rfl, rfl, rfl, rfl, rfl, rfl⟩

end

/-- Settles O26: one operand read and a write of P, with a page penalty to ask for in CMP alone. -/
theorem compareInstructions : Obligations.CompareInstructions := by
  unfold Obligations.CompareInstructions
  intro i s compare r reg
  have cpu := operation_compare_cpu compare i.mode (prepare i s)
  have reg_eq : comparand i.mnemonic s.cpu = reg := rfl
  rw [comparand_prepare, reg_eq, prepare_penaltyEligible, Bool.or_false] at cpu
  have outside := (operation_compare_outside compare i.mode (prepare i s)).trans (finishInstr_outside _)
  have documented : i.mnemonic ≠ .illegal := by rcases compare with h | h | h <;> simp [h]
  refine ⟨formOf_mem_of_documented documented, _, exec_next s i, by simp [RegistersSame, cpu],
    finishInstr_pc_of_cpu cpu, fun f => ?_, finishInstr_cycles_of_cpu cpu, finishInstr_dispatched_of_cpu cpu, outside,
    (operand_prepare_memories s i).trans outside.memories⟩
  rw [finishInstr_p, cpu, getFlag_setFlag, getFlag_compareFlags_byte]
  cases f <;> simp [r]

end Sys2Proof.Machine
end

section
/-! The jump family: bytes pushed one after another and where they then stand, and what JMP, JSR, RTS, BRK and RTI write
inside the dispatch. -/

namespace Sys2Proof.Machine

/-! ### Bytes pushed one after another -/

/-- The state after bytes were pushed, the first of the list first (R32). -/
def pushAll (bytes : List Byte) (s : State) : State := bytes.foldl (fun s b => push b s) s

theorem pushAll_cons (b : Byte) (bytes : List Byte) (s : State) :
    pushAll (b :: bytes) s = pushAll bytes (push b s) := rfl

theorem push_wf (d : Byte) {s : State} (wf : s.ram.wf zeroByte) : (push d s).ram.wf zeroByte := by
  rw [push_eq]
  exact setRamByte_wf _ d s wf

/-- S after a push and `k` more is S after `k + 1`. -/
theorem sub_one_sub_ofNat (sp : Byte) (k : Nat) : sp - 1 - BitVec.ofNat 8 k = sp - BitVec.ofNat 8 (k + 1) := by
  rw [Nat.add_comm, BitVec.ofNat_add, sub_sub]
  rfl

/-- Fewer than 256 pushes do not come back to the cell of the first. -/
theorem sub_one_sub_ofNat_ne (sp : Byte) {k : Nat} (short : k < 255) : sp ≠ sp - 1 - BitVec.ofNat 8 k := by
  intro back
  rw [sub_one_sub_ofNat] at back
  have number := congrArg BitVec.toNat back
  have := sp.isLt
  rw [BitVec.toNat_sub, BitVec.toNat_ofNat] at number
  omega

/-- A push before other pushes, where the stack does not wrap over its byte. -/
theorem PushedBytes.cons {b : Byte} {bytes : List Byte} {s t : State} (short : bytes.length < 256)
    (h : PushedBytes bytes (push b s) t) : PushedBytes (b :: bytes) s t := by
  have one := push_pushedBytes b s
  have sp : (push b s).cpu.sp = s.cpu.sp - 1 := one.sp
  refine ⟨?_, fun wf k c listed => ?_, fun a elsewhere => ?_, h.ppu.trans one.ppu, h.dma.trans one.dma,
    h.pads.trans one.pads, h.cart.trans one.cart, h.ticks.trans one.ticks, h.ready.trans one.ready⟩
  · rw [h.sp, sp, sub_one_sub_ofNat, List.length_cons]
  · cases k with
    | zero =>
      cases listed
      rw [h.kept _ fun k hk => ?_]
      · exact one.stored wf 0 b rfl
      · rw [stackAddr_mod, sp, ne_eq, Nat.add_left_cancel_iff, BitVec.toNat_inj, BitVec.sub_zero]
        exact sub_one_sub_ofNat_ne _ (by omega)
    | succ k =>
      rw [← sub_one_sub_ofNat, ← sp]
      exact h.stored (push_wf b wf) k c listed
  · rw [h.kept a fun k hk => ?_, one.kept a fun k hk => elsewhere k (Nat.lt_of_lt_of_le hk (Nat.le_add_left 1 _))]
    rw [sp, sub_one_sub_ofNat]
    exact elsewhere (k + 1) (Nat.succ_lt_succ hk)

theorem pushAll_pushedBytes (bytes : List Byte) (s : State) (short : bytes.length ≤ 256) :
    PushedBytes bytes s (pushAll bytes s) := by
  induction bytes generalizing s with
  | nil => exact ⟨by simp [pushAll], nofun, fun _ _ => rfl, rfl, rfl, rfl, rfl, rfl, rfl⟩
  | cons b bytes ih =>
    rw [List.length_cons] at short
    exact (ih (push b s) (by omega)).cons (by omega)

/-- What the frame of a push says is about S and what is outside the CPU alone. -/
theorem PushedBytes.of_outside {bytes : List Byte} {s u t t' : State} (h : PushedBytes bytes u t)
    (before : OutsideCpuSame s u) (beforeSp : u.cpu.sp = s.cpu.sp) (after : OutsideCpuSame t t')
    (afterSp : t'.cpu.sp = t.cpu.sp) : PushedBytes bytes s t' where
  sp := by rw [afterSp, h.sp, beforeSp]
  stored wf k b listed := by
    rw [State.ramByte, after.ram, ← beforeSp]
    exact h.stored (by rw [before.ram]; exact wf) k b listed
  kept a elsewhere := by
    rw [State.ramByte, after.ram, State.ramByte, ← before.ram]
    exact h.kept a (by rw [beforeSp]; exact elsewhere)
  ppu := (after.ppu.trans h.ppu).trans before.ppu
  dma := (after.dma.trans h.dma).trans before.dma
  pads := (after.pads.trans h.pads).trans before.pads
  cart := (after.cart.trans h.cart).trans before.cart
  ticks := (after.ticks.trans h.ticks).trans before.ticks
  ready := (after.ready.trans h.ready).trans before.ready

/-- Above S stand the bytes that were pushed, the last one first. -/
theorem PushedBytes.above {bytes : List Byte} {s t : State} (h : PushedBytes bytes s t) (wf : s.ram.wf zeroByte)
    (j : Nat) {b : Byte} (listed : bytes.reverse[j]? = some b) :
    t.ramByte (stackAddr (t.cpu.sp + BitVec.ofNat 8 (j + 1))) = b := by
  obtain ⟨within, -⟩ := List.getElem?_eq_some_iff.1 listed
  rw [List.length_reverse] at within
  rw [List.getElem?_reverse within] at listed
  have place : t.cpu.sp + BitVec.ofNat 8 (j + 1) = s.cpu.sp - BitVec.ofNat 8 (bytes.length - 1 - j) := by
    have length : bytes.length = bytes.length - 1 - j + (j + 1) := by omega
    rw [h.sp]
    nth_rw 1 [length]
    rw [BitVec.ofNat_add, ← sub_sub, sub_add_cancel]
  rw [place]
  exact h.stored wf _ b listed

@[simp] theorem pushAll_cpu (bytes : List Byte) (s : State) :
    (pushAll bytes s).cpu = { s.cpu with sp := s.cpu.sp - BitVec.ofNat 8 bytes.length } := by
  induction bytes generalizing s with
  | nil => simp [pushAll]
  | cons b bytes ih => rw [pushAll_cons, ih, push_cpu, sub_one_sub_ofNat, List.length_cons]

theorem setCpu_outside (s : State) (c : Cpu) : OutsideCpuSame s { s with cpu := c } :=
  ⟨rfl, rfl, rfl, rfl, rfl, rfl, rfl⟩

/-! ### The status byte -/

theorem setFlag_setFlag (f : Flag) (b c : Bool) (p : Byte) : setFlag f b (setFlag f c p) = setFlag f b p :=
  eq_of_getFlag fun g => by
    simp only [getFlag_setFlag]
    split <;> rfl

/-- The byte BRK pushes is P with B and U set (R293). -/
theorem brkPushed_setFlag_u (p : Byte) : brkPushed (setFlag .u true p) = p ||| 0x30 := BitVec.or_assoc p _ _

/-- The masks of R294, with U set again by the dispatch, write B and U. -/
theorem setFlag_b_u_eq_masks (p : Byte) : setFlag .u true (setFlag .b false p) = (p &&& 0xEF) ||| 0x20 := rfl

/-! ### The dispatch around an operation on PC, S and P -/

/-- The CPU after the dispatch of an operation that wrote PC, S and P alone (R170). -/
structure Jumped (i : Instr) (pc : Word) (sp p : Byte) (s t : State) : Prop where
  pc         : t.cpu.pc = pc
  sp         : t.cpu.sp = sp
  p          : t.cpu.p = setFlag .u true p
  a          : t.cpu.a = s.cpu.a
  x          : t.cpu.x = s.cpu.x
  y          : t.cpu.y = s.cpu.y
  cycles     : t.cpu.cycles = i.row.baseCycles
  dispatched : Dispatched i false s t

theorem Jumped.registers {i : Instr} {pc : Word} {sp p : Byte} {s t : State} (j : Jumped i pc sp p s t)
    (same : sp = s.cpu.sp) : RegistersSame s t := ⟨j.a, j.x, j.y, j.sp.trans same⟩

theorem finishInstr_jumped {i : Instr} {s t : State} {pc : Word} {sp p : Byte}
    (cpu : t.cpu = { (prepare i s).cpu with pc := pc, sp := sp, p := p }) : Jumped i pc sp p s (finishInstr t) := by
  have dispatched : Dispatched i false s (finishInstr t) := by constructor <;> simp [cpu]
  constructor <;> simp [cpu, dispatched]

/-- A resolver that reads no pointer touches nothing outside the CPU. -/
theorem prepare_outside_of_modeName {i : Instr} (noPointer : modeName i.mode ≠ .ind) (s : State) :
    OutsideCpuSame s (prepare i s) :=
  prepare_outside s fun _ pointer => noPointer (congrArg modeName pointer)

/-- An operation that wrote registers alone does nothing outside the CPU. -/
theorem finishInstr_setCpu_outside {i : Instr} {s : State} (noPointer : modeName i.mode ≠ .ind) (c : Cpu) :
    OutsideCpuSame s (finishInstr { prepare i s with cpu := c }) :=
  ((prepare_outside_of_modeName noPointer s).trans (setCpu_outside _ c)).trans (finishInstr_outside _)

/-- An operation that pushed bytes and wrote other registers has, outside the CPU, done its pushes alone (R32, R170). -/
theorem finishInstr_pushedBytes {i : Instr} {s u : State} {bytes : List Byte} (noPointer : modeName i.mode ≠ .ind)
    (short : bytes.length ≤ 256) (outside : OutsideCpuSame (pushAll bytes (prepare i s)) u)
    (sp : u.cpu.sp = (pushAll bytes (prepare i s)).cpu.sp) : PushedBytes bytes s (finishInstr u) :=
  (pushAll_pushedBytes bytes (prepare i s) short).of_outside (prepare_outside_of_modeName noPointer s) (prepare_sp s i)
    (outside.trans (finishInstr_outside u)) ((finishInstr_sp u).trans sp)

/-! ### JMP -/

/-- A read neither looks at the CPU nor changes it. -/
theorem memRead_with_cpu (a : Word) (s : State) (c : Cpu) :
    memRead a { s with cpu := c } = ((memRead a s).1, { (memRead a s).2 with cpu := c }) := by
  simp only [memRead, cpuRead, State.ramByte]
  split
  · rfl
  · split
    · rfl
    · split
      · rfl
      · split <;> rfl

/-- The resolver of IND leaves the word behind the pointer, and outside the CPU what its two reads left (R189). -/
theorem prepare_ind {i : Instr} {ptr : Word} (ind : i.mode = .ind ptr) (s : State) :
    let lo := memRead ptr s
    let hi := memRead ((ptr &&& 0xFF00) ||| ((ptr + 1) &&& 0x00FF)) lo.2
    (prepare i s).cpu.absAddr = wordOf lo.1 hi.1 ∧ OutsideCpuSame hi.2 (prepare i s) := by
  simp only [prepare, ind, resolve_ind_eq, beginInstr, memRead_with_cpu]
  exact ⟨trivial, rfl, rfl, rfl, rfl, rfl, rfl, rfl⟩

/-- JMP goes where its resolver points (R290). -/
theorem jumped_of_jmp {i : Instr} (jmp : i.mnemonic = .jmp) (s : State) :
    Jumped i (prepare i s).cpu.absAddr s.cpu.sp (setFlag .u true s.cpu.p) s (executed i s) := by
  rw [executed, jmp, ← prepare_sp s i, ← prepare_p s i]
  exact finishInstr_jumped rfl

theorem executed_outside_of_jmp {i : Instr} (jmp : i.mnemonic = .jmp) (s : State) :
    OutsideCpuSame (prepare i s) (executed i s) := by
  rw [executed, jmp]
  exact (setCpu_outside (prepare i s) _).trans (finishInstr_outside _)

/-- Settles O27: JMP's operation goes where the resolver points, and IND alone of the two resolvers reads the bus. -/
theorem jumpInstructions : Obligations.JumpInstructions := by
  unfold Obligations.JumpInstructions
  constructor
  · intro addr s
    have j := jumped_of_jmp (i := .jmpAbs addr) rfl s
    have operation := executed_outside_of_jmp (i := .jmpAbs addr) rfl s
    have outside := (prepare_outside_of_modeName (by nofun) s).trans operation
    exact ⟨formOf_mem_specForms rfl, _, exec_next s _, j.pc, j.cycles, j.registers rfl, j.p.trans (setFlag_setFlag ..),
      j.dispatched, outside, outside.memories⟩
  · intro ptr s lo hi
    have j := jumped_of_jmp (i := .jmpInd ptr) rfl s
    have outside := executed_outside_of_jmp (i := .jmpInd ptr) rfl s
    obtain ⟨target, reads⟩ := prepare_ind (i := .jmpInd ptr) rfl s
    refine ⟨formOf_mem_specForms rfl, _, exec_next s _, ?_, j.cycles, j.registers rfl, j.p.trans (setFlag_setFlag ..),
      j.dispatched, reads.trans outside, (prepare_memories s _).trans outside.memories⟩
    rw [← wordOf_toNat, ← target]
    exact congrArg BitVec.toNat j.pc

/-! ### JSR and RTS -/

/-- JSR pushes PC less one, high byte first, and goes to the resolved target (R291). -/
theorem executed_jsr (addr : Word) (s : State) :
    let ret := s.cpu.pc + 2
    executed (.jsr addr) s = finishInstr ((pushAll [hiByte ret, loByte ret] (prepare (.jsr addr) s)).setPc addr) := by
  have last : (prepare (.jsr addr) s).cpu.pc - 1 = s.cpu.pc + 2 := by
    rw [prepare_pc]
    exact add_sub_assoc s.cpu.pc 3 1
  dsimp only
  rw [← last]
  rfl

/-- RTS goes to the byte after the word that stands above S (R292). -/
theorem executed_rts (s : State) :
    executed .rts s = finishInstr (((prepare .rts s).setSp (s.cpu.sp + 2)).setPc
      (wordOf (s.ramByte (stackAddr (s.cpu.sp + 1))) (s.ramByte (stackAddr (s.cpu.sp + 2))) + 1)) := by
  have two : s.cpu.sp + 1 + 1 = s.cpu.sp + 2 := add_assoc ..
  change finishInstr (opRts .imp (prepare .rts s)) = _
  simp only [opRts, popWord_eq, prepare_sp, prepare_ramByte, two]

/-- Settles O28: the dispatch has put PC past JSR, so one less is its last byte; the pushes leave `abs_addr` alone. -/
theorem callInstruction : Obligations.CallInstruction := by
  unfold Obligations.CallInstruction
  intro addr s ret
  have j : Jumped (.jsr addr) addr (s.cpu.sp - 2) (setFlag .u true s.cpu.p) s (executed (.jsr addr) s) := by
    rw [executed_jsr, ← prepare_sp s (.jsr addr), ← prepare_p s (.jsr addr)]
    exact finishInstr_jumped (by rw [State.setPc, pushAll_cpu]; rfl)
  have pushed : PushedBytes [hiByte ret, loByte ret] s (executed (.jsr addr) s) := by
    rw [executed_jsr]
    exact finishInstr_pushedBytes (by nofun) (by simp) (setCpu_outside ..) rfl
  exact ⟨formOf_mem_specForms rfl, _, exec_next s _, j.pc, j.cycles, j.a, j.x, j.y, j.p.trans (setFlag_setFlag ..),
    j.dispatched, pushed⟩

/-- Settles O29: the popped word is read above S, from RAM, so the pops touch nothing outside the CPU. -/
theorem returnInstruction : Obligations.ReturnInstruction := by
  unfold Obligations.ReturnInstruction
  intro s lo hi
  have j : Jumped .rts (wordOf lo hi + 1) (s.cpu.sp + 2) (setFlag .u true s.cpu.p) s (executed .rts s) := by
    rw [executed_rts, ← prepare_p s .rts]
    exact finishInstr_jumped rfl
  have outside : OutsideCpuSame s (executed .rts s) := by
    rw [executed_rts]
    exact finishInstr_setCpu_outside (by nofun) _
  refine ⟨formOf_mem_specForms rfl, _, exec_next s _, ?_, j.sp, j.cycles, j.a, j.x, j.y, j.p.trans (setFlag_setFlag ..),
    j.dispatched, outside, outside.memories⟩
  rw [BitVec.ofNat_add, ← wordOf_eq_ofNat]
  exact j.pc

/-- Settles O30: the return pops the two bytes that the call pushed, and adds the one that the call took off. -/
theorem callThenReturn : Obligations.CallThenReturn := by
  unfold Obligations.CallThenReturn
  intro addr s wf
  obtain ⟨-, t, call, -, -, a, x, y, p, -, pushed⟩ := callInstruction addr s
  obtain ⟨-, u, ret, pc', sp', -, a', x', y', p', -⟩ := returnInstruction t
  have lo := pushed.above wf 0 rfl
  have hi := pushed.above wf 1 rfl
  refine ⟨u, by simp only [execAll, call, ret], ?_, ⟨a'.trans a, x'.trans x, y'.trans y, ?_⟩, ?_⟩
  · calc u.cpu.pc
      _ = wordOf (loByte (s.cpu.pc + 2)) (hiByte (s.cpu.pc + 2)) + 1 := by
        rw [pc', BitVec.ofNat_add, ← wordOf_eq_ofNat]
        exact congrArg₂ (wordOf · · + 1) lo hi
      _ = s.cpu.pc + 3 := by
        rw [wordOf_loByte_hiByte]
        exact add_assoc ..
  · rw [sp', pushed.sp]
    exact sub_add_cancel ..
  · rw [p', p, setFlag_setFlag]

/-! ### BRK and RTI -/

theorem vectorWord_eq_peek (s : State) {a : Word} (low : 0x8000 ≤ a.toNat) (high : 0x8000 ≤ (a + 1).toNat) :
    s.vectorWord a = wordOf (s.peek a) (s.peek (a + 1)) := by
  rw [peek_high s low, peek_high s high, State.vectorWord]
  cases s.cart
  · exact (by decide : (0 : Word) = wordOf 0 0)
  · rfl

theorem takeBreak_eq_pushAll (s : State) :
    takeBreak s =
      ((pushAll [hiByte (s.cpu.pc + 1), loByte (s.cpu.pc + 1), brkPushed s.cpu.p] s).setP (brkStatus s.cpu.p)).setPc
        (wordOf (s.peek 0xFFFE) (s.peek 0xFFFF)) := by
  rw [takeBreak_eq, vectorWord_eq_peek s (by decide) (by decide)]
  simp only [pushAll, List.foldl, push_eq]
  rfl

/-- BRK pushes the address past its padding byte and P with B and U set, and goes to the word at its vector (R293). -/
theorem executed_brk (s : State) :
    let ret := s.cpu.pc + 2
    executed .brk s = finishInstr (((pushAll [hiByte ret, loByte ret, s.cpu.p ||| 0x30] (prepare .brk s)).setP
      (brkStatus (setFlag .u true s.cpu.p))).setPc (wordOf (s.peek 0xFFFE) (s.peek 0xFFFF))) := by
  have next : (prepare .brk s).cpu.pc + 1 = s.cpu.pc + 2 := by
    rw [prepare_pc]
    exact add_assoc s.cpu.pc 1 1
  have vector {a : Word} (h : isMemory a = true) : (prepare .brk s).peek a = s.peek a :=
    (prepare_memories s .brk).cpu a h
  change finishInstr (takeBreak (prepare .brk s)) = _
  rw [takeBreak_eq_pushAll, next, prepare_p, brkPushed_setFlag_u, vector (by decide), vector (by decide)]

/-- RTI writes P from the byte above S and PC from the next two (R294). -/
theorem executed_rti (s : State) :
    executed .rti s = finishInstr ((((prepare .rti s).setSp (s.cpu.sp + 3)).setP
      (setFlag .u false (setFlag .b false (s.ramByte (stackAddr (s.cpu.sp + 1)))))).setPc
        (wordOf (s.ramByte (stackAddr (s.cpu.sp + 2))) (s.ramByte (stackAddr (s.cpu.sp + 3))))) := by
  have two : s.cpu.sp + 1 + 1 = s.cpu.sp + 2 := add_assoc ..
  have three : s.cpu.sp + 2 + 1 = s.cpu.sp + 3 := add_assoc ..
  change finishInstr (returnFromInterrupt (prepare .rti s)) = _
  simp only [returnFromInterrupt_eq, prepare_sp, prepare_ramByte, two, three]

/-- Settles O31: the dispatch has put PC past the opcode, and the entry past the padding byte, before the pushes; the
vector is in PRG ROM, which no push changes. -/
theorem breakInstruction : Obligations.BreakInstruction := by
  unfold Obligations.BreakInstruction
  intro s ret
  have j : Jumped .brk (wordOf (s.peek 0xFFFE) (s.peek 0xFFFF)) (s.cpu.sp - 3) (brkStatus (setFlag .u true s.cpu.p)) s
      (executed .brk s) := by
    rw [executed_brk, ← prepare_sp s .brk]
    exact finishInstr_jumped (by rw [State.setPc, State.setP, pushAll_cpu]; rfl)
  have pushed : PushedBytes [hiByte ret, loByte ret, s.cpu.p ||| 0x30] s (executed .brk s) := by
    rw [executed_brk]
    exact finishInstr_pushedBytes (by nofun) (by simp) (setCpu_outside ..) rfl
  refine ⟨formOf_mem_specForms rfl, _, exec_next s _, j.pc, fun f => ?_, j.cycles, j.a, j.x, j.y, j.dispatched, pushed⟩
  refine (congrArg (getFlag f) j.p).trans ?_
  cases f <;> simp [brkStatus, brkPushed]

/-- Settles O32: what is popped is read above S, from RAM; the dispatch sets U again after RTI has cleared it. -/
theorem returnFromInterrupt_rti : Obligations.ReturnFromInterrupt := by
  unfold Obligations.ReturnFromInterrupt
  intro s popped lo hi
  have j : Jumped .rti (wordOf lo hi) (s.cpu.sp + 3) (setFlag .u false (setFlag .b false popped)) s
      (executed .rti s) := by
    rw [executed_rti]
    exact finishInstr_jumped rfl
  have outside : OutsideCpuSame s (executed .rti s) := by
    rw [executed_rti]
    exact finishInstr_setCpu_outside (by nofun) _
  refine ⟨formOf_mem_specForms rfl, _, exec_next s _, j.p.trans (setFlag_setFlag ..), ?_, j.sp, j.cycles, j.a, j.x, j.y,
    j.dispatched, outside, outside.memories⟩
  rw [← wordOf_toNat]
  exact congrArg BitVec.toNat j.pc

/-- Settles O33: the return pops the three bytes that the break pushed; its masks take out the B and U pushed with P. -/
theorem breakThenReturn : Obligations.BreakThenReturn := by
  unfold Obligations.BreakThenReturn
  intro s wf
  obtain ⟨-, t, brk, -, -, -, a, x, y, -, pushed⟩ := breakInstruction s
  obtain ⟨-, u, rti, p', pc', sp', -, a', x', y', -⟩ := returnFromInterrupt_rti t
  have p := pushed.above wf 0 rfl
  have lo := pushed.above wf 1 rfl
  have hi := pushed.above wf 2 rfl
  refine ⟨u, by simp only [execAll, brk, rti], ?_, ⟨a'.trans a, x'.trans x, y'.trans y, ?_⟩, fun f => ?_⟩
  · rw [← wordOf_loByte_hiByte (s.cpu.pc + 2)]
    refine BitVec.eq_of_toNat_eq ?_
    rw [pc', ← wordOf_toNat]
    exact congrArg₂ (fun l h => (wordOf l h).toNat) lo hi
  · rw [sp', pushed.sp]
    exact sub_add_cancel ..
  · have flags : u.cpu.p = setFlag .u true (setFlag .b false (brkPushed (setFlag .u true s.cpu.p))) := by
      rw [p', ← setFlag_b_u_eq_masks, brkPushed_setFlag_u]
      exact congrArg (setFlag .u true <| setFlag .b false ·) p
    rw [flags]
    cases f <;> simp [brkPushed]

end Sys2Proof.Machine
end

section
/-! The tick family: what the master tick alone moves, and a run of ticks. -/

namespace Sys2Proof.Machine

/-! ### The clockwork -/

/-- What no bus access and no instruction changes: the tick counter, the host's reset flag, and the PPU's position and
latches (R340, R389, R395). -/
structure Clockwork where
  ticks         : Nat
  ready         : Bool
  scanline      : Int
  cycle         : Nat
  frameComplete : Bool
  nmiPending    : Bool

/-- The clockwork of a machine. -/
def State.clockwork (s : State) : Clockwork :=
  ⟨s.ticks, s.ready, s.ppu.scanline, s.ppu.cycle, s.ppu.frameComplete, s.ppu.nmiPending⟩

section
variable (s : State)

@[simp] theorem setCpu_clockwork (c : Cpu) : State.clockwork { s with cpu := c } = s.clockwork := rfl

theorem ppuRegReadEffect_clockwork (r : BitVec 3) :
    State.clockwork { s with ppu := ppuRegReadEffect s.cart r s.ppu } = s.clockwork := by
  unfold ppuRegReadEffect
  split <;> rfl

theorem ppuWrite_clockwork (cart : Option Cartridge) (addr : Word) (d : Byte) :
    State.clockwork { s with ppu := ppuWrite cart addr d s.ppu } = s.clockwork := by
  unfold ppuWrite
  dsimp only
  split
  · rfl
  · split <;> rfl

theorem ppuRegWrite_clockwork (r : BitVec 3) (d : Byte) :
    State.clockwork { s with ppu := ppuRegWrite s.cart r d s.ppu } = s.clockwork := by
  unfold ppuRegWrite
  split
  case h_6 => unfold ppuScrollWrite; split <;> rfl
  case h_7 => unfold ppuAddrWrite; split <;> rfl
  case h_8 => exact ppuWrite_clockwork s s.cart s.ppu.v d
  all_goals rfl

@[simp] theorem memRead_clockwork (a : Word) : (memRead a s).2.clockwork = s.clockwork := by
  unfold memRead cpuRead
  split
  · rfl
  · split
    · rfl
    · split
      · exact ppuRegReadEffect_clockwork s (ppuReg a)
      · split <;> rfl

@[simp] theorem memRead16_clockwork (a b : Word) : (memRead16 a b s).2.clockwork = s.clockwork := by simp [memRead16]

@[simp] theorem memWrite_clockwork (a : Word) (d : Byte) : (memWrite a d s).clockwork = s.clockwork := by
  unfold memWrite
  split
  · rfl
  · split
    · exact ppuRegWrite_clockwork s (ppuReg a) d
    · split
      · rfl
      · split <;> rfl

@[simp] theorem push_clockwork (d : Byte) : (push d s).clockwork = s.clockwork :=
  memWrite_clockwork s (stackAddr s.cpu.sp) d

@[simp] theorem pushWord_clockwork (w : Word) : (pushWord w s).clockwork = s.clockwork := by simp [pushWord]

@[simp] theorem pop_clockwork : (pop s).2.clockwork = s.clockwork := memRead_clockwork _ _

@[simp] theorem popWord_clockwork : (popWord s).2.clockwork = s.clockwork := by simp [popWord]

@[simp] theorem takeInterrupt_clockwork (pushed entry : Byte) (vector : Word) :
    (takeInterrupt pushed entry vector s).clockwork = s.clockwork := by
  refine (memRead16_clockwork _ _ _).trans ?_
  exact (push_clockwork _ _).trans (pushWord_clockwork _ _)

@[simp] theorem cpuNmi_clockwork : (cpuNmi s).clockwork = s.clockwork := takeInterrupt_clockwork s _ _ _

theorem returnFromInterrupt_clockwork : (returnFromInterrupt s).clockwork = s.clockwork :=
  (popWord_clockwork _).trans (pop_clockwork s)

@[simp] theorem operand_clockwork (m : Mode) : (operand m s).2.clockwork = s.clockwork := by
  cases m with
  | acc | imm => rfl
  | _ => exact memRead_clockwork s _

@[simp] theorem writeback_clockwork (m : Mode) (r : Byte) : (writeback m r s).clockwork = s.clockwork := by
  cases m with
  | acc => rfl
  | _ => exact memWrite_clockwork s _ r

@[simp] theorem resolve_clockwork (m : Mode) : (resolve m s).clockwork = s.clockwork := by
  cases m with
  | ind | izx | izy => exact memRead16_clockwork s _ _
  | _ => rfl

@[simp] theorem prepare_clockwork (i : Instr) : (prepare i s).clockwork = s.clockwork :=
  resolve_clockwork (beginInstr i s) i.mode

@[simp] theorem fetch_clockwork : (fetch s).2.clockwork = s.clockwork := by
  unfold fetch
  dsimp only
  split <;> simp

@[simp] theorem branch_clockwork (taken : Bool) : (branch taken s).clockwork = s.clockwork := by cases taken <;> rfl

/-- No operation moves the clockwork. -/
@[simp] theorem operation_clockwork (n : Mnemonic) (m : Mode) :
    (Mnemonic.operation n m s).clockwork = s.clockwork := by
  cases n with
  | lda | ldx | ldy | adc | sbc | and | ora | eor | bit | cmp | cpx | cpy => exact operand_clockwork s m
  | sta | stx | sty => exact memWrite_clockwork s _ _
  | inc | dec | asl | lsr | rol | ror => exact (writeback_clockwork _ m _).trans (operand_clockwork s m)
  | bcc | bcs | beq | bmi | bne | bpl | bvc | bvs => exact branch_clockwork s _
  | jsr => exact pushWord_clockwork s _
  | rts => exact popWord_clockwork s
  | brk => exact takeInterrupt_clockwork _ _ _ _
  | rti => exact returnFromInterrupt_clockwork s
  | pha | php => exact push_clockwork s _
  | pla | plp => exact pop_clockwork s
  | _ => rfl

@[simp] theorem finishInstr_clockwork : (finishInstr s).clockwork = s.clockwork := by
  unfold finishInstr
  split <;> rfl

@[simp] theorem dmaClock_clockwork : (dmaClock s).clockwork = s.clockwork := by
  unfold dmaClock
  split
  · split <;> rfl
  · split
    · exact memRead_clockwork s _
    · rfl

theorem cpuClock_next : ∃ t, cpuClock s = .next t ∧ t.clockwork = s.clockwork := by
  unfold cpuClock
  split
  · refine ⟨_, congrArg (onNext · countDown) (exec_next (fetch s).2 (fetch s).1), ?_⟩
    exact (finishInstr_clockwork _).trans (by simp)
  · exact ⟨_, rfl, rfl⟩

/-- Whatever runs in a CPU slot goes on, and leaves the clockwork alone. -/
theorem slotPhase_next : ∃ t, slotPhase s = .next t ∧ t.clockwork = s.clockwork := by
  unfold slotPhase
  split
  · split
    · exact ⟨_, rfl, dmaClock_clockwork s⟩
    · exact cpuClock_next s
  · exact ⟨s, rfl, rfl⟩

theorem nmiPhase_clockwork : (nmiPhase s).clockwork = { s.clockwork with nmiPending := false } := by
  unfold nmiPhase
  split
  · exact cpuNmi_clockwork _
  · next clear => simp [State.clockwork, clear]

/-- Once reset, a tick goes on, and of the clockwork it does no more than the PPU's clock and the NMI phase. -/
theorem step_next {s : State} (ready : s.ready = true) :
    ∃ t, step s = .next t ∧ t.clockwork = { (ppuPhase s).clockwork with nmiPending := false } := by
  obtain ⟨u, slot, same⟩ := slotPhase_next (ppuPhase s)
  refine ⟨nmiPhase u, by rw [step_of_ready ready, slot]; rfl, ?_⟩
  rw [nmiPhase_clockwork, same]

theorem step_keeps_ready {s t : State} (ready : s.ready = true) (next : step s = .next t) : t.ready = true := by
  obtain ⟨u, stepped, clock⟩ := step_next ready
  cases stepped.symm.trans next
  exact (congrArg Clockwork.ready clock).trans ready

end

/-- Settles O9: the three phases of a tick all go on, and none clears the flag of the host's reset. -/
theorem stepStopsOnlyBeforeReset : Obligations.StepStopsOnlyBeforeReset := by
  unfold Obligations.StepStopsOnlyBeforeReset
  refine fun s => ⟨fun ready => ?_, fun waiting => ?_⟩
  · obtain ⟨t, next, -⟩ := step_next ready
    exact ⟨t, next, step_keeps_ready ready next⟩
  · rw [step, waiting, if_neg Bool.false_ne_true]

/-! ### The PPU's position -/

/-- The place after a position of the frame (R389). -/
def Ppu.nextPlace (p : Ppu) : Int × Nat :=
  if p.cycle < 340 then (p.scanline, p.cycle + 1) else if p.scanline < 260 then (p.scanline + 1, 0) else (-1, 0)

/-- The advance moves the position, and reports the frame as its last place passes (R389). -/
theorem advance_eq {p : Ppu} (onFrame : p.positionOk) :
    advance p =
      { p with
        scanline := p.nextPlace.1, cycle := p.nextPlace.2
        frameComplete := p.frameComplete || decide (p.scanline = 260 ∧ p.cycle = 340) } := by
  obtain ⟨-, high, cycle⟩ := onFrame
  unfold advance Ppu.nextPlace
  by_cases inLine : p.cycle < 340
  · simp [inLine, show ¬ 341 ≤ p.cycle + 1 by omega, show p.cycle ≠ 340 by omega]
  · by_cases inFrame : p.scanline < 260
    · simp [inLine, inFrame, show 341 ≤ p.cycle + 1 by omega, show ¬ 261 ≤ p.scanline + 1 by omega,
        show p.scanline ≠ 260 by omega]
    · simp [show p.cycle = 340 by omega, show p.scanline = 260 by omega]

/-- The tags and the pixel leave the position and the frame-complete flag to the advance. -/
theorem ppuClock_eq_advance (cart : Option Cartridge) (p : Ppu) :
    ∃ q, ppuClock cart p = advance q ∧ q.scanline = p.scanline ∧ q.cycle = p.cycle ∧
      q.frameComplete = p.frameComplete := by
  have frame := tagFrame_tagActions cart p
  refine ⟨_, rfl, ?_⟩
  unfold whenTag
  split <;> exact ⟨frame.scanline, frame.cycle, frame.frameComplete⟩

/-- Where the PPU's clock leaves the position, and when it reports the frame (R389). -/
theorem ppuClock_position (cart : Option Cartridge) {p : Ppu} (onFrame : p.positionOk) :
    (ppuClock cart p).scanline = p.nextPlace.1 ∧ (ppuClock cart p).cycle = p.nextPlace.2 ∧
      (ppuClock cart p).frameComplete = (p.frameComplete || decide (p.scanline = 260 ∧ p.cycle = 340)) := by
  obtain ⟨q, clocked, line, cycle, complete⟩ := ppuClock_eq_advance cart p
  have onFrame' : q.positionOk := by rwa [Ppu.positionOk, line, cycle]
  rw [clocked, advance_eq onFrame', Ppu.nextPlace, Ppu.nextPlace, line, cycle, complete]
  exact ⟨rfl, rfl, rfl⟩

/-- The PPU's part of the clockwork after a tick is that of its own clock, with the latch clear. -/
theorem step_position {s t : State} (ready : s.ready = true) (onFrame : s.ppu.positionOk) (next : step s = .next t) :
    t.ticks = s.ticks + 1 ∧ t.ppu.scanline = s.ppu.nextPlace.1 ∧ t.ppu.cycle = s.ppu.nextPlace.2 ∧
      t.ppu.frameComplete = (s.ppu.frameComplete || decide (s.ppu.scanline = 260 ∧ s.ppu.cycle = 340)) ∧
      t.ppu.nmiPending = false := by
  obtain ⟨u, stepped, clock⟩ := step_next ready
  cases stepped.symm.trans next
  obtain ⟨line, cycle, complete⟩ := ppuClock_position s.cart onFrame
  exact ⟨congrArg Clockwork.ticks clock, (congrArg Clockwork.scanline clock).trans line,
    (congrArg Clockwork.cycle clock).trans cycle, (congrArg Clockwork.frameComplete clock).trans complete,
    congrArg Clockwork.nmiPending clock⟩

/-- A tick moves the PPU one place on, around its frame. -/
theorem step_framePlace {s t : State} (ready : s.ready = true) (onFrame : s.ppu.positionOk) (next : step s = .next t) :
    t.ppu.positionOk ∧ t.ppu.framePlace = (s.ppu.framePlace + 1) % 89342 := by
  obtain ⟨-, line, cycle, -⟩ := step_position ready onFrame next
  obtain ⟨low, high, inLine⟩ := onFrame
  rw [Ppu.positionOk, Ppu.framePlace, Ppu.framePlace, line, cycle, Ppu.nextPlace]
  split
  · dsimp only; omega
  · split <;> dsimp only <;> omega

theorem framePlace_lt {p : Ppu} (onFrame : p.positionOk) : p.framePlace < 89342 := by
  obtain ⟨low, high, inLine⟩ := onFrame
  unfold Ppu.framePlace
  omega

/-! ### Runs -/

theorem run_succ_of_step {n : Nat} {s t : State} (next : step s = .next t) : run (n + 1) s = run n t := by
  rw [run, next]

/-- Settles O11, by induction on the ticks: each moves the PPU one place on. -/
theorem ticksAndPosition : Obligations.TicksAndPosition := by
  unfold Obligations.TicksAndPosition
  intro n
  induction n with
  | zero =>
    refine fun s ready onFrame => ⟨s, rfl, ready, rfl, onFrame, ?_⟩
    rw [Nat.add_zero, Nat.mod_eq_of_lt (framePlace_lt onFrame)]
  | succ n ih =>
    intro s ready onFrame
    obtain ⟨u, next, -⟩ := step_next ready
    obtain ⟨onFrame', place⟩ := step_framePlace ready onFrame next
    obtain ⟨t, ran, ready', ticks, onFrame'', place'⟩ := ih u (step_keeps_ready ready next) onFrame'
    obtain ⟨tick, -⟩ := step_position ready onFrame next
    refine ⟨t, (run_succ_of_step next).trans ran, ready', by omega, onFrame'', ?_⟩
    rw [place', place, Nat.mod_add_mod, Nat.add_assoc, Nat.add_comm 1 n]

end Sys2Proof.Machine
end


section
/-! The stack and flag family: what the pushes, the pulls, the flag instructions, NOP and the illegal stub write
inside the dispatch. -/

namespace Sys2Proof.Machine

/-! ### PHA and PHP -/

/-- PHP's copy does not see the dispatch's own write of U: the copy has U set anyway (R301). -/
theorem setFlag_u_or_b_u (p : Byte) : setFlag .u true p ||| 0x30 = p ||| 0x30 :=
  eq_of_getFlag fun f => by cases f <;> simp [getFlag, setFlag, setBit, Flag.bit]

section
variable {i : Instr} (pushes : i = .pha ∨ i = .php) (s : State)
include pushes

/-- PHA and PHP are documented rows in IMP, of three clocks (R300, R301). -/
theorem push_row : i.mode = .imp ∧ i.row.baseCycles = 3 ∧ i.mnemonic ≠ .illegal := by
  rcases pushes with rfl | rfl <;> exact ⟨rfl, rfl, nofun⟩

/-- PHA and PHP are one push (R300, R301). -/
theorem operation_push :
    Mnemonic.operation i.mnemonic i.mode (prepare i s) =
      pushAll [if i = .pha then s.cpu.a else s.cpu.p ||| 0x30] (prepare i s) := by
  rcases pushes with rfl | rfl
  · exact congrArg (push · _) (prepare_a s .pha)
  · refine congrArg (push · _) ?_
    rw [prepare_p, setFlag_u_or_b_u]
    rfl

end

/-- Settles O34: the operation is one push, which writes S and no other register. -/
theorem pushInstructions : Obligations.PushInstructions := by
  unfold Obligations.PushInstructions
  intro i s pushes d
  obtain ⟨imp, base, documented⟩ := push_row pushes
  have noPointer : modeName i.mode ≠ .ind := by simp [imp, modeName]
  have cpu : (pushAll [d] (prepare i s)).cpu = { (prepare i s).cpu with sp := (prepare i s).cpu.sp - 1 } :=
    pushAll_cpu [d] (prepare i s)
  refine ⟨formOf_mem_of_documented documented, _, exec_next s i, ?_⟩
  rw [operation_push pushes]
  refine ⟨?_, by simp [base], by simp, by simp, by simp, by simp [setFlag_setFlag],
    finishInstr_dispatched_ineligible cpu, finishInstr_pushedBytes noPointer (by simp) (.refl _) rfl⟩
  rw [finishInstr_pc_of_cpu cpu, pcAfter, imp]
  rfl

/-! ### PLA and PLP -/

/-- P after PLP: the popped byte with B clear and U set (R303). -/
theorem getFlag_pulled (f : Flag) (d : Byte) :
    getFlag f ((d &&& 0xCF) ||| 0x20) = if f = .b then false else if f = .u then true else getFlag f d := by
  cases f <;> simp [getFlag, Flag.bit]

section
variable {i : Instr} (pulls : i = .pla ∨ i = .plp) (s : State)
include pulls

/-- PLA and PLP are documented rows in IMP, of four clocks (R302, R303). -/
theorem pull_row : i.mode = .imp ∧ i.row.baseCycles = 4 ∧ i.mnemonic ≠ .illegal := by
  rcases pulls with rfl | rfl <;> exact ⟨rfl, rfl, nofun⟩

/-- PLA writes A, Z and N, PLP writes P, from the byte above S (R302, R303). -/
theorem operation_pull :
    Mnemonic.operation i.mnemonic i.mode s =
      let d := s.ramByte (stackAddr (s.cpu.sp + 1))
      { s with cpu := { s.cpu with
          sp := s.cpu.sp + 1
          a := if i = .pla then d else s.cpu.a
          p := if i = .plp then (d &&& 0xCF) ||| 0x20 else setZN d s.cpu.p } } := by
  rcases pulls with rfl | rfl
  · change opPla .imp s = _
    rw [opPla, pop_eq]
    rfl
  · change opPlp .imp s = _
    rw [opPlp, pop_eq]
    rfl

end

/-- Settles O35: what is pulled is read above S, from RAM, so the pull touches nothing outside the CPU. -/
theorem pullInstructions : Obligations.PullInstructions := by
  unfold Obligations.PullInstructions
  intro i s pulls d
  obtain ⟨imp, base, documented⟩ := pull_row pulls
  have noPointer : modeName i.mode ≠ .ind := by simp [imp, modeName]
  have pulled := operation_pull pulls (prepare i s)
  have cpu := congrArg State.cpu pulled
  dsimp only at cpu
  have outside : OutsideCpuSame s (finishInstr (Mnemonic.operation i.mnemonic i.mode (prepare i s))) := by
    rw [pulled]
    exact finishInstr_setCpu_outside noPointer _
  refine ⟨formOf_mem_of_documented documented, _, exec_next s i, ?_, by simp [cpu, base], by simp [cpu],
    by simp [cpu, d], by simp [cpu], by simp [cpu], fun f => ?_, finishInstr_dispatched_ineligible cpu, outside,
    outside.memories⟩
  · rw [finishInstr_pc_of_cpu cpu, pcAfter, imp]
    rfl
  · rw [finishInstr_p, cpu, prepare_ramByte, prepare_sp, prepare_p]
    rcases pulls with rfl | rfl
    · cases f <;> simp [d]
    · rw [if_pos rfl, if_pos rfl, getFlag_setFlag, getFlag_pulled]
      cases f <;> rfl

/-- Settles O36: PLP pulls the copy PHP pushed, and its masks put B and U where they were. -/
theorem pushPullStatus : Obligations.PushPullStatus := by
  unfold Obligations.PushPullStatus
  intro s wf clearB setU
  obtain ⟨-, t, php, -, -, a, x, y, -, -, pushed⟩ := pushInstructions .php s (.inr rfl)
  obtain ⟨-, u, plp, -, -, sp', a', x', y', p', -⟩ := pullInstructions .plp t (.inr rfl)
  have copy : t.ramByte (stackAddr (t.cpu.sp + 1)) = s.cpu.p ||| 0x30 := pushed.above wf 0 rfl
  refine ⟨u, by simp only [execAll, php, plp], eq_of_getFlag fun f => ?_, a'.trans a, x'.trans x, y'.trans y, ?_⟩
  · rw [p', copy, if_pos rfl]
    cases f
    case b => exact clearB.symm
    case u => exact setU.symm
    all_goals simp [getFlag, Flag.bit]
  · rw [sp', pushed.sp]
    exact sub_add_cancel ..

/-! ### The flag instructions -/

section
variable {i : Instr} {g : Flag} {b : Bool} (writes : flagWritten i = some (g, b)) (s : State)
include writes

/-- The flag instructions are documented rows in IMP, of two clocks (R310 to R316). -/
theorem flagWritten_row : i.mode = .imp ∧ i.row.baseCycles = 2 ∧ i.mnemonic ≠ .illegal := by
  cases i with
  | clc | sec | cld | sed | cli | sei | clv => exact ⟨rfl, rfl, nofun⟩
  | _ => cases writes

/-- A flag instruction writes its flag (R310 to R316). -/
theorem operation_flagWritten : Mnemonic.operation i.mnemonic i.mode s = s.setFlag g b := by
  cases i with
  | clc | sec | cld | sed | cli | sei | clv => cases writes; rfl
  | _ => cases writes

end

/-- Settles O38: a flag instruction resolves nothing and reads nothing, and no one of them writes U. -/
theorem flagInstructions : Obligations.FlagInstructions := by
  unfold Obligations.FlagInstructions
  intro i s g b writes
  obtain ⟨imp, base, documented⟩ := flagWritten_row writes
  have noPointer : modeName i.mode ≠ .ind := by simp [imp, modeName]
  have notU : g ≠ .u := by
    rintro rfl
    cases i <;> cases writes
  have cpu : ((prepare i s).setFlag g b).cpu =
    { (prepare i s).cpu with p := setFlag g b (prepare i s).cpu.p } := rfl
  have outside : OutsideCpuSame s (finishInstr ((prepare i s).setFlag g b)) := finishInstr_setCpu_outside noPointer _
  refine ⟨formOf_mem_of_documented documented, _, exec_next s i, ?_⟩
  rw [operation_flagWritten writes]
  refine ⟨by simp [RegistersSame, cpu], ?_, fun f => ?_, by simp [cpu, base], finishInstr_dispatched_ineligible cpu,
    outside, outside.memories⟩
  · rw [finishInstr_pc_of_cpu cpu, pcAfter, imp]
    rfl
  · rw [finishInstr_p, cpu, prepare_p]
    simp only [getFlag_setFlag]
    split
    · next u => simp [u, notU.symm]
    · rfl

/-! ### NOP and the illegal stub -/

/-- NOP and the stub do nothing inside the dispatch, in IMP; the stub's count is the free one (R317, R318). -/
theorem nothing_row {i : Instr} (nothing : i.mnemonic = .nop ∨ i.mnemonic = .illegal) :
    i.mode = .imp ∧ i.row.baseCycles = (if i.mnemonic = .nop then 2 else Config.illegalOpcodeClocks) ∧
      ∀ m s, Mnemonic.operation i.mnemonic m s = s := by
  cases i with
  | nop | illegal => exact ⟨rfl, rfl, fun _ _ => rfl⟩
  | _ => rcases nothing with h | h <;> cases h

/-- Settles O39: the dispatch is all of it. -/
theorem nopAndIllegalStub : Obligations.NopAndIllegalStub := by
  unfold Obligations.NopAndIllegalStub
  refine ⟨Nat.succ_pos _, fun i s nothing => ⟨formOf_mem_specForms, _, exec_next s i, ?_⟩⟩
  obtain ⟨imp, base, same⟩ := nothing_row nothing
  have outside : OutsideCpuSame s (finishInstr (prepare i s)) :=
    (prepare_outside s (by simp [imp])).trans (finishInstr_outside _)
  rw [same]
  refine ⟨by simp [RegistersSame], ?_, by simp [setFlag_setFlag], by simp [base], finishInstr_dispatched_ineligible rfl,
    outside, outside.memories⟩
  rw [finishInstr_pc_of_cpu rfl, pcAfter, imp]
  rfl

end Sys2Proof.Machine
end


section
/-! The PPU register family: the fields of the Loopy registers, and the reads and writes of the register window. -/

namespace Sys2Proof.Machine

/-! ### The Loopy registers, by their bits (R51) -/

section
variable {i : Nat} (hi : i < 16) (v : Word)
include hi

/-- A field of `n` bits put in at bit `k`, over a mask that leaves its place clear. -/
theorem getLsbD_insert {n : Nat} (f : BitVec n) {k : Nat} {mask : Word}
    (clear : ∀ i < 16, mask.getLsbD i = !decide (k ≤ i ∧ i < k + n)) :
    ((v &&& mask) ||| (f.setWidth 16 <<< k)).getLsbD i =
      if k ≤ i ∧ i < k + n then f.getLsbD (i - k) else v.getLsbD i := by
  rw [BitVec.getLsbD_or, BitVec.getLsbD_and, clear i hi, BitVec.getLsbD_shiftLeft, BitVec.getLsbD_setWidth]
  by_cases below : i < k
  · simp [below, show ¬ k ≤ i by omega, hi]
  · by_cases inside : i < k + n
    · simp [below, show k ≤ i by omega, inside, hi, show i - k < 16 by omega]
    · simp [inside, BitVec.getLsbD_of_ge f (i - k) (by omega)]

theorem getLsbD_setCoarseX (c : BitVec 5) :
    (setCoarseX c v).getLsbD i = if i < 5 then c.getLsbD i else v.getLsbD i := by
  have := getLsbD_insert hi v c (k := 0) (mask := 0xFFE0) (by decide)
  simpa [setCoarseX] using this

theorem getLsbD_setCoarseY (c : BitVec 5) :
    (setCoarseY c v).getLsbD i = if 5 ≤ i ∧ i < 10 then c.getLsbD (i - 5) else v.getLsbD i :=
  getLsbD_insert hi v c (k := 5) (by decide)

theorem getLsbD_setFineY (f : BitVec 3) :
    (setFineY f v).getLsbD i = if 12 ≤ i ∧ i < 15 then f.getLsbD (i - 12) else v.getLsbD i :=
  getLsbD_insert hi v f (k := 12) (by decide)

theorem getLsbD_setNametableX (b : Bool) :
    (setNametableX b v).getLsbD i = if i = 10 then b else v.getLsbD i := by
  have set : ∀ i < 16, (0x0400 : Word).getLsbD i = decide (i = 10) := by decide
  have clear : ∀ i < 16, (0xFBFF : Word).getLsbD i = !decide (i = 10) := by decide
  cases b <;> by_cases here : i = 10 <;>
    simp only [setNametableX, if_true, if_false, Bool.false_eq_true, BitVec.getLsbD_or, BitVec.getLsbD_and, set i hi,
      clear i hi, here] <;> simp

theorem getLsbD_setNametableY (b : Bool) :
    (setNametableY b v).getLsbD i = if i = 11 then b else v.getLsbD i := by
  have set : ∀ i < 16, (0x0800 : Word).getLsbD i = decide (i = 11) := by decide
  have clear : ∀ i < 16, (0xF7FF : Word).getLsbD i = !decide (i = 11) := by decide
  cases b <;> by_cases here : i = 11 <;>
    simp only [setNametableY, if_true, if_false, Bool.false_eq_true, BitVec.getLsbD_or, BitVec.getLsbD_and, set i hi,
      clear i hi, here] <;> simp

end

/-! ### Bytes of a word -/

theorem getLsbD_hiByte {i : Nat} (hi : i < 8) (w : Word) : (hiByte w).getLsbD i = w.getLsbD (8 + i) := by
  simp [hiByte, hi]

theorem getLsbD_loByte {i : Nat} (hi : i < 8) (w : Word) : (loByte w).getLsbD i = w.getLsbD i := by
  simp [loByte, hi]

/-- A word with its low byte replaced (R363, R376). -/
theorem loadLow_eq (b : Byte) (w : Word) : loadLow b w = wordOf b (hiByte w) := by
  refine BitVec.eq_of_getLsbD_eq fun i hi => ?_
  have bits := getLsbD_insert hi w b (k := 0) (mask := 0xFF00) (by decide)
  rw [BitVec.shiftLeft_zero] at bits
  rw [loadLow, bits, getLsbD_wordOf]
  by_cases low : i < 8
  · simp [low]
  · simp [low, getLsbD_hiByte (show i - 8 < 8 by omega), show 8 + (i - 8) = i by omega]

/-- A word with its high byte replaced (R363). -/
theorem loadHigh_eq (b : Byte) (w : Word) : (b.setWidth 16 <<< 8) ||| (w &&& 0x00FF) = wordOf (loByte w) b := by
  refine BitVec.eq_of_getLsbD_eq fun i hi => ?_
  rw [BitVec.or_comm, getLsbD_insert hi w b (k := 8) (mask := 0x00FF) (by decide), getLsbD_wordOf]
  by_cases low : i < 8
  · simp only [low, show ¬ 8 ≤ i by omega, getLsbD_loByte low, false_and, if_false, if_true]
  · simp [low, show 8 ≤ i by omega, hi]

theorem loByte_toNat (w : Word) : (loByte w).toNat = w.toNat % 256 := by
  simp [loByte]

theorem loadLow_toNat (b : Byte) (w : Word) : (loadLow b w).toNat = 256 * (w.toNat / 256) + b.toNat := by
  rw [loadLow_eq, wordOf_toNat, hiByte_toNat]

/-! ### Writes -/

section
variable (d : Byte) (v : Word)

theorem ctrlWrite_t {k : Nat} (hk : k < 16) :
    (setNametableY (d.getLsbD 1) (setNametableX (d.getLsbD 0) v)).getLsbD k =
      if k = 10 then d.getLsbD 0 else if k = 11 then d.getLsbD 1 else v.getLsbD k := by
  rw [getLsbD_setNametableY hk, getLsbD_setNametableX hk]
  split
  · next y => simp [y]
  · rfl

theorem ppuScrollWrite_first_t {k : Nat} (hk : k < 16) :
    (setCoarseX (d.extractLsb' 3 5) v).getLsbD k = if k < 5 then d.getLsbD (k + 3) else v.getLsbD k := by
  rw [getLsbD_setCoarseX hk]
  split
  · next x => simp [x, Nat.add_comm]
  · rfl

theorem ppuScrollWrite_second_t {k : Nat} (hk : k < 16) :
    (setCoarseY (d.extractLsb' 3 5) (setFineY (d.extractLsb' 0 3) v)).getLsbD k =
      if 12 ≤ k ∧ k < 15 then d.getLsbD (k - 12)
      else if 5 ≤ k ∧ k < 10 then d.getLsbD (k - 2) else v.getLsbD k := by
  rw [getLsbD_setCoarseY hk, getLsbD_setFineY hk, BitVec.getLsbD_extractLsb', BitVec.getLsbD_extractLsb']
  by_cases fine : 12 ≤ k ∧ k < 15
  · simp [fine, show ¬ k < 10 by omega, show k - 12 < 3 by omega]
  · by_cases coarse : 5 ≤ k ∧ k < 10
    · simp [coarse, show ¬ 12 ≤ k by omega, show k - 5 < 5 by omega, show 3 + (k - 5) = k - 2 by omega]
    · simp [fine, coarse]

/-- The first PPUADDR write leaves the low byte and clears the two bits the address space has not (R363). -/
theorem ppuAddrWrite_first_t :
    (((d &&& 0x3F).setWidth 16 <<< 8) ||| (v &&& 0x00FF)).toNat = 256 * (d.toNat % 64) + v.toNat % 256 := by
  have six : (d &&& 0x3F).toNat = d.toNat % 64 := Nat.and_two_pow_sub_one_eq_mod d.toNat 6
  rw [loadHigh_eq, wordOf_toNat, loByte_toNat, six]

end

/-- Settles O45, register by register. -/
theorem ppuRegisterWrites : Obligations.PpuRegisterWrites := by
  unfold Obligations.PpuRegisterWrites
  intro d cart p
  have fine : d.extractLsb' 0 3 = BitVec.ofNat 3 (d.toNat % 8) := BitVec.eq_of_toNat_eq (by simp)
  refine ⟨⟨_, rfl, fun k => ctrlWrite_t d p.t⟩, rfl, rfl, rfl, rfl,
    fun first => ⟨_, ?_, fun k => ppuScrollWrite_first_t d p.t⟩,
    fun second => ⟨_, ?_, fun k => ppuScrollWrite_second_t d p.t⟩,
    fun first => ⟨_, ?_, ppuAddrWrite_first_t d p.t⟩, fun second => ⟨_, ?_, loadLow_toNat d p.t⟩⟩
  · rw [← fine]
    exact if_neg (by rw [first]; exact Bool.false_ne_true)
  · exact if_pos second
  · exact if_neg (by rw [first]; exact Bool.false_ne_true)
  · exact if_pos second

/-! ### Reads -/

/-- A host peek of the PPU window gives the register's value and changes nothing (R88). -/
theorem cpuRead_peek_window {a : Word} (low : 0x2000 ≤ a.toNat) (high : a.toNat ≤ 0x3FFF) (s : State) :
    cpuRead true a s = (ppuRegValue s.cart (BitVec.ofNat 3 (a.toNat % 8)) s.ppu, s) := by
  simp only [cpuRead, cartCpuRead_low a (show a.toNat < 0x8000 by omega), show ¬ a.toNat ≤ 0x1FFF by omega, high,
    ppuReg_eq_ofNat, if_true, if_false]

/-- The five write-only registers (R370). -/
theorem ppuReg_writeOnly {r : BitVec 3} (writeOnly : r ∈ [0, 1, 3, 5, 6]) (cart : Option Cartridge) (p : Ppu) :
    ppuRegValue cart r p = 0 ∧ ppuRegReadEffect cart r p = p := by
  fin_cases writeOnly <;> exact ⟨rfl, rfl⟩

/-- A write of the PPU's memory moves neither v nor what PPUDATA adds to it (R360, R365). -/
theorem ppuDataWrite_eq (cart : Option Cartridge) (d : Byte) (p : Ppu) :
    ppuDataWrite cart d p = { ppuWrite cart p.v d p with v := p.v + p.increment } := by
  unfold ppuDataWrite ppuWrite
  dsimp only
  split
  · rfl
  · split <;> rfl

/-- Settles O46, register by register. -/
theorem ppuRegisterReads : Obligations.PpuRegisterReads := by
  unfold Obligations.PpuRegisterReads
  intro cart p inc
  exact ⟨⟨rfl, rfl⟩, ⟨rfl, rfl⟩, ⟨rfl, rfl⟩, fun r writeOnly => ppuReg_writeOnly writeOnly cart p,
    fun d => ppuDataWrite_eq cart d p, fun a s low high => cpuRead_peek_window low high s⟩

end Sys2Proof.Machine
end


section
/-! The PPU pipeline family: scroll, the shifters, the tile fetches, the sprites and the pixel. -/

namespace Sys2Proof.Machine

/-! ### The fields of a Loopy register (R51) -/

section
variable {v w : Word}

theorem coarseX_congr (same : ∀ i < 16, i < 5 → v.getLsbD i = w.getLsbD i) : coarseX v = coarseX w :=
  BitVec.eq_of_getLsbD_eq fun i hi => by
    simpa only [coarseX, BitVec.getLsbD_extractLsb', hi, decide_true, Bool.true_and] using
      same (0 + i) (by omega) (by omega)

theorem coarseY_congr (same : ∀ i < 16, 5 ≤ i ∧ i < 10 → v.getLsbD i = w.getLsbD i) : coarseY v = coarseY w :=
  BitVec.eq_of_getLsbD_eq fun i hi => by
    simpa only [coarseY, BitVec.getLsbD_extractLsb', hi, decide_true, Bool.true_and] using
      same (5 + i) (by omega) (by omega)

theorem fineY_congr (same : ∀ i < 16, 12 ≤ i ∧ i < 15 → v.getLsbD i = w.getLsbD i) : fineY v = fineY w :=
  BitVec.eq_of_getLsbD_eq fun i hi => by
    simpa only [fineY, BitVec.getLsbD_extractLsb', hi, decide_true, Bool.true_and] using
      same (12 + i) (by omega) (by omega)

end

section
variable (v : Word)

theorem coarseX_setCoarseX (c : BitVec 5) : coarseX (setCoarseX c v) = c :=
  BitVec.eq_of_getLsbD_eq fun i hi => by
    rw [coarseX, BitVec.getLsbD_extractLsb', getLsbD_setCoarseX (by omega)]
    simp [hi]

theorem coarseY_setCoarseY (c : BitVec 5) : coarseY (setCoarseY c v) = c :=
  BitVec.eq_of_getLsbD_eq fun i hi => by
    rw [coarseY, BitVec.getLsbD_extractLsb', getLsbD_setCoarseY (by omega)]
    simp [hi, show 5 + i < 10 by omega]

theorem fineY_setFineY (f : BitVec 3) : fineY (setFineY f v) = f :=
  BitVec.eq_of_getLsbD_eq fun i hi => by
    rw [fineY, BitVec.getLsbD_extractLsb', getLsbD_setFineY (by omega)]
    simp [hi, show 12 + i < 15 by omega]

/-- Writing coarse_x writes no other field. -/
@[simp] theorem setCoarseX_fields (c : BitVec 5) :
    coarseX (setCoarseX c v) = c ∧ coarseY (setCoarseX c v) = coarseY v ∧
      nametableX (setCoarseX c v) = nametableX v ∧ nametableY (setCoarseX c v) = nametableY v ∧
      fineY (setCoarseX c v) = fineY v ∧ (setCoarseX c v).getLsbD 15 = v.getLsbD 15 := by
  have other {i : Nat} (hi : i < 16) (outside : ¬ i < 5) : (setCoarseX c v).getLsbD i = v.getLsbD i := by
    rw [getLsbD_setCoarseX hi, if_neg outside]
  exact ⟨coarseX_setCoarseX v c, coarseY_congr fun i hi inside => other hi (by omega), other (by decide) (by decide),
    other (by decide) (by decide), fineY_congr fun i hi inside => other hi (by omega), other (by decide) (by decide)⟩

/-- Writing coarse_y writes no other field. -/
@[simp] theorem setCoarseY_fields (c : BitVec 5) :
    coarseX (setCoarseY c v) = coarseX v ∧ coarseY (setCoarseY c v) = c ∧
      nametableX (setCoarseY c v) = nametableX v ∧ nametableY (setCoarseY c v) = nametableY v ∧
      fineY (setCoarseY c v) = fineY v ∧ (setCoarseY c v).getLsbD 15 = v.getLsbD 15 := by
  have other {i : Nat} (hi : i < 16) (outside : ¬ (5 ≤ i ∧ i < 10)) : (setCoarseY c v).getLsbD i = v.getLsbD i := by
    rw [getLsbD_setCoarseY hi, if_neg outside]
  exact ⟨coarseX_congr fun i hi inside => other hi (by omega), coarseY_setCoarseY v c, other (by decide) (by decide),
    other (by decide) (by decide), fineY_congr fun i hi inside => other hi (by omega), other (by decide) (by decide)⟩

/-- Writing nametable_x writes no other field. -/
@[simp] theorem setNametableX_fields (b : Bool) :
    coarseX (setNametableX b v) = coarseX v ∧ coarseY (setNametableX b v) = coarseY v ∧
      nametableX (setNametableX b v) = b ∧ nametableY (setNametableX b v) = nametableY v ∧
      fineY (setNametableX b v) = fineY v ∧ (setNametableX b v).getLsbD 15 = v.getLsbD 15 := by
  have other {i : Nat} (hi : i < 16) (outside : i ≠ 10) : (setNametableX b v).getLsbD i = v.getLsbD i := by
    rw [getLsbD_setNametableX hi, if_neg outside]
  exact ⟨coarseX_congr fun i hi inside => other hi (by omega), coarseY_congr fun i hi inside => other hi (by omega),
    (getLsbD_setNametableX (by decide) v b).trans (if_pos rfl), other (by decide) (by decide),
    fineY_congr fun i hi inside => other hi (by omega), other (by decide) (by decide)⟩

/-- Writing nametable_y writes no other field. -/
@[simp] theorem setNametableY_fields (b : Bool) :
    coarseX (setNametableY b v) = coarseX v ∧ coarseY (setNametableY b v) = coarseY v ∧
      nametableX (setNametableY b v) = nametableX v ∧ nametableY (setNametableY b v) = b ∧
      fineY (setNametableY b v) = fineY v ∧ (setNametableY b v).getLsbD 15 = v.getLsbD 15 := by
  have other {i : Nat} (hi : i < 16) (outside : i ≠ 11) : (setNametableY b v).getLsbD i = v.getLsbD i := by
    rw [getLsbD_setNametableY hi, if_neg outside]
  exact ⟨coarseX_congr fun i hi inside => other hi (by omega), coarseY_congr fun i hi inside => other hi (by omega),
    other (by decide) (by decide), (getLsbD_setNametableY (by decide) v b).trans (if_pos rfl),
    fineY_congr fun i hi inside => other hi (by omega), other (by decide) (by decide)⟩

/-- Writing fine_y writes no other field. -/
@[simp] theorem setFineY_fields (f : BitVec 3) :
    coarseX (setFineY f v) = coarseX v ∧ coarseY (setFineY f v) = coarseY v ∧
      nametableX (setFineY f v) = nametableX v ∧ nametableY (setFineY f v) = nametableY v ∧
      fineY (setFineY f v) = f ∧ (setFineY f v).getLsbD 15 = v.getLsbD 15 := by
  have other {i : Nat} (hi : i < 16) (outside : ¬ (12 ≤ i ∧ i < 15)) : (setFineY f v).getLsbD i = v.getLsbD i := by
    rw [getLsbD_setFineY hi, if_neg outside]
  exact ⟨coarseX_congr fun i hi inside => other hi (by omega), coarseY_congr fun i hi inside => other hi (by omega),
    other (by decide) (by decide), other (by decide) (by decide), fineY_setFineY v f, other (by decide) (by decide)⟩

end

/-! ### Scroll (R377 to R380) -/

/-- A field holds a number where its bits do. -/
theorem bitVec_eq_iff_toNat {n : Nat} (c : BitVec n) {k : Nat} (hk : k < 2 ^ n) :
    c = BitVec.ofNat n k ↔ c.toNat = k := by
  rw [← BitVec.toNat_inj, BitVec.toNat_ofNat, Nat.mod_eq_of_lt hk]

section
variable {p : Ppu}

/-- With rendering disabled the scroll stands still. -/
theorem scroll_of_disabled (disabled : p.renderingEnabled = false) :
    incrementScrollX p = p ∧ incrementScrollY p = p ∧ transferX p = p ∧ transferY p = p := by
  simp [incrementScrollX, incrementScrollY, transferX, transferY, disabled]

variable (enabled : p.renderingEnabled = true)
include enabled

/-- The X increment counts coarse_x around its row and flips nametable_x as it wraps (R377). -/
theorem incrementScrollX_fields :
    ∃ v', incrementScrollX p = { p with v := v' } ∧
      (coarseX v').toNat = ((coarseX p.v).toNat + 1) % 32 ∧
      nametableX v' = (nametableX p.v != decide ((coarseX p.v).toNat = 31)) ∧
      coarseY v' = coarseY p.v ∧ nametableY v' = nametableY p.v ∧ fineY v' = fineY p.v ∧
      v'.getLsbD 15 = p.v.getLsbD 15 := by
  have last := bitVec_eq_iff_toNat (coarseX p.v) (k := 31) (by decide)
  rw [incrementScrollX, if_pos enabled]
  by_cases wraps : coarseX p.v = 31
  · exact ⟨_, if_pos wraps, by simp [-BitVec.getLsbD_eq_getElem, wraps]⟩
  · exact ⟨_, if_neg wraps, by simp [-BitVec.getLsbD_eq_getElem, mt last.2 wraps, BitVec.toNat_add]⟩

/-- The Y increment counts fine_y, and as it wraps coarse_y, from row 29 into the other nametable (R378). -/
theorem incrementScrollY_fields :
    ∃ v', incrementScrollY p = { p with v := v' } ∧
      (fineY v').toNat = ((fineY p.v).toNat + 1) % 8 ∧
      (coarseY v').toNat = (if (fineY p.v).toNat < 7 then (coarseY p.v).toNat
        else if (coarseY p.v).toNat = 29 ∨ (coarseY p.v).toNat = 31 then 0 else (coarseY p.v).toNat + 1) ∧
      nametableY v' = (nametableY p.v != decide ((fineY p.v).toNat = 7 ∧ (coarseY p.v).toNat = 29)) ∧
      coarseX v' = coarseX p.v ∧ nametableX v' = nametableX p.v ∧ v'.getLsbD 15 = p.v.getLsbD 15 := by
  have fine := (fineY p.v).isLt
  have coarse := (coarseY p.v).isLt
  have row29 := bitVec_eq_iff_toNat (coarseY p.v) (k := 29) (by decide)
  have row31 := bitVec_eq_iff_toNat (coarseY p.v) (k := 31) (by decide)
  rw [incrementScrollY, if_pos enabled]
  by_cases inTile : (fineY p.v).toNat < 7
  · exact ⟨_, if_pos inTile, by
      simp [-BitVec.getLsbD_eq_getElem, inTile, show (fineY p.v).toNat ≠ 7 by omega, BitVec.toNat_add]⟩
  · have bottom : (fineY p.v).toNat = 7 := by omega
    rw [if_neg inTile]
    simp only [setFineY_fields]
    by_cases h29 : coarseY p.v = 29
    · exact ⟨_, if_pos h29, by simp [-BitVec.getLsbD_eq_getElem, h29, bottom]⟩
    · rw [if_neg h29]
      by_cases h31 : coarseY p.v = 31
      · exact ⟨_, if_pos h31, by simp [-BitVec.getLsbD_eq_getElem, h31, bottom]⟩
      · have next : ((coarseY p.v).toNat + 1) % 32 = (coarseY p.v).toNat + 1 := by
          have := mt row31.2 h31
          omega
        exact ⟨_, if_neg h31, by
          simp [-BitVec.getLsbD_eq_getElem, mt row29.2 h29, mt row31.2 h31, bottom, BitVec.toNat_add, next]⟩

/-- The X transfer copies coarse_x and nametable_x (R379). -/
theorem transferX_bits :
    ∃ v', transferX p = { p with v := v' } ∧
      ∀ k < 16, v'.getLsbD k = if k < 5 ∨ k = 10 then p.t.getLsbD k else p.v.getLsbD k := by
  refine ⟨_, if_pos enabled, fun k hk => ?_⟩
  rw [getLsbD_setNametableX hk, getLsbD_setCoarseX hk]
  by_cases x : k = 10
  · simp [x, nametableX]
  · by_cases coarse : k < 5
    · simp [x, coarse, coarseX]
    · simp [x, coarse]

/-- The Y transfer copies coarse_y, nametable_y and fine_y (R380). -/
theorem transferY_bits :
    ∃ v', transferY p = { p with v := v' } ∧
      ∀ k < 16, v'.getLsbD k =
        if (5 ≤ k ∧ k < 10) ∨ (11 ≤ k ∧ k < 15) then p.t.getLsbD k else p.v.getLsbD k := by
  refine ⟨_, if_pos enabled, fun k hk => ?_⟩
  rw [getLsbD_setFineY hk, getLsbD_setNametableY hk, getLsbD_setCoarseY hk, fineY, coarseY, nametableY,
    BitVec.getLsbD_extractLsb', BitVec.getLsbD_extractLsb']
  by_cases fine : 12 ≤ k ∧ k < 15
  · simp [fine, show 11 ≤ k by omega, show k - 12 < 3 by omega]
  · by_cases y : k = 11
    · simp [y]
    · by_cases coarse : 5 ≤ k ∧ k < 10
      · simp [fine, y, coarse, show k - 5 < 5 by omega]
      · simp [fine, y, coarse, show ¬ (11 ≤ k ∧ k < 15) by omega]

end

/-- Settles O51: each of the four by the fields or bits it writes. -/
theorem scrollUpdates : Obligations.ScrollUpdates := by
  unfold Obligations.ScrollUpdates
  exact fun p => ⟨scroll_of_disabled, fun enabled => ⟨incrementScrollX_fields enabled, incrementScrollY_fields enabled,
    transferX_bits enabled, transferY_bits enabled⟩⟩

/-! ### The sprite units -/

section
variable (n k : Nat) (f : SpriteUnit → SpriteUnit) (u : SpriteUnits)

theorem getElem?_mapBelow :
    (u.mapBelow n f).toList[k]? = u.toList[k]?.map fun e => if k < n then f e else e := by
  match k with
  | 0 | 1 | 2 | 3 | 4 | 5 | 6 | 7 | _ + 8 => rfl

theorem getElem?_mapAt :
    (u.mapAt n f).toList[k]? = u.toList[k]?.map fun e => if n = k then f e else e := by
  match k with
  | 0 | 1 | 2 | 3 | 4 | 5 | 6 | 7 | _ + 8 => rfl

end

/-! ### The shifters (R388) -/

theorem shiftLeft_one_eq_ofNat {n : Nat} (w : BitVec n) : w <<< 1 = BitVec.ofNat n (2 * w.toNat) :=
  BitVec.eq_of_toNat_eq (by simp [Nat.shiftLeft_eq, Nat.mul_comm])

/-- One step of a unit, by its numbers. -/
theorem SpriteUnit.step_eq (e : SpriteUnit) :
    e.step =
      if 0 < e.x.toNat then { e with x := BitVec.ofNat 8 (e.x.toNat - 1) }
      else { e with patLo := BitVec.ofNat 8 (2 * e.patLo.toNat), patHi := BitVec.ofNat 8 (2 * e.patHi.toNat) } := by
  have zero := bitVec_eq_iff_toNat e.x (k := 0) (by decide)
  by_cases here : e.x = 0
  · rw [SpriteUnit.step, if_pos here, if_neg (by have := zero.1 here; omega), shiftLeft_one_eq_ofNat,
      shiftLeft_one_eq_ofNat]
  · have counts : 0 < e.x.toNat := Nat.pos_of_ne_zero (mt zero.2 here)
    have next : e.x - 1 = BitVec.ofNat 8 (e.x.toNat - 1) := by bv_omega
    rw [SpriteUnit.step, if_neg here, if_pos counts, next]

/-- The background half shifts the four background shifters under RENDER_BACKGROUND. -/
theorem shiftBackground_eq (p : Ppu) :
    let shift := fun w : Word => if p.mask.getLsbD 3 then BitVec.ofNat 16 (2 * w.toNat) else w
    shiftBackground p = { p with
      bgPatLo := shift p.bgPatLo, bgPatHi := shift p.bgPatHi, bgAttrLo := shift p.bgAttrLo
      bgAttrHi := shift p.bgAttrHi } := by
  cases on : p.mask.getLsbD 3
  · exact if_neg (by rw [Ppu.renderBackground, on]; exact Bool.false_ne_true)
  · rw [shiftBackground, if_pos (show p.renderBackground = true from on)]
    simp only [if_true, shiftLeft_one_eq_ofNat]

/-- The sprite half steps the collected units below cycle 258 under RENDER_SPRITES. -/
theorem shiftSprites_eq (p : Ppu) :
    shiftSprites p = { p with
      sprites := p.sprites.mapBelow
        (if p.mask.getLsbD 4 = true ∧ p.cycle < 258 then p.spriteCount else 0) SpriteUnit.step } := by
  by_cases on : p.mask.getLsbD 4 = true ∧ p.cycle < 258
  · rw [if_pos on, shiftSprites, if_pos (by simp [Ppu.renderSprites, on])]
  · rw [if_neg on, shiftSprites, if_neg (by simpa [Ppu.renderSprites] using on)]
    rfl

/-- Settles O52, by halves. -/
theorem shifterUpdate : Obligations.ShifterUpdate := by
  unfold Obligations.ShifterUpdate
  intro p q shift
  have halves : q = _ := (congrArg shiftSprites (shiftBackground_eq p)).trans (shiftSprites_eq _)
  constructor
  · rw [halves]
  · intro k e unit
    rw [halves]
    dsimp only
    rw [getElem?_mapBelow, unit, Option.map_some, SpriteUnit.step_eq]
    by_cases on : p.mask.getLsbD 4 = true ∧ p.cycle < 258
    · simp only [on, true_and, and_self, if_true]
    · rw [if_neg on, if_neg (Nat.not_lt_zero k), if_neg (by tauto)]

end Sys2Proof.Machine
end


section
/-! The PPU fetch family: the tile fetches, the sprite evaluation and fetch, and the pixel. -/

namespace Sys2Proof.Machine

/-! ### The tile fetches (R373 to R376, R382) -/

theorem loadLow_eq_ofNat (b : Byte) (w : Word) : loadLow b w = BitVec.ofNat 16 (256 * (w.toNat / 256) + b.toNat) := by
  rw [← loadLow_toNat, BitVec.ofNat_toNat, BitVec.setWidth_eq]

/-- The nametable address is the low twelve bits of v over 0x2000 (R373). -/
theorem nametableAddr_eq (v : Word) : 0x2000 ||| (v &&& 0x0FFF) = BitVec.ofNat 16 (0x2000 + v.toNat % 0x1000) := by
  have mask : v.toNat &&& 0x0FFF = v.toNat % 0x1000 := Nat.and_two_pow_sub_one_eq_mod v.toNat 12
  have join : 0x2000 ||| v.toNat % 0x1000 = 0x2000 + v.toNat % 0x1000 :=
    (Nat.two_pow_add_eq_or_of_lt (i := 13) (by omega) 1).symm
  refine BitVec.eq_of_toNat_eq ?_
  calc (0x2000 ||| (v &&& 0x0FFF)).toNat
    _ = 0x2000 ||| (v.toNat &&& 0x0FFF) := rfl
    _ = 0x2000 + v.toNat % 0x1000 := by rw [mask, join]
    _ = _ := by rw [BitVec.toNat_ofNat]; omega

/-- The parts of an attribute address do not overlap (R374). -/
theorem attributeAddr_parts : ∀ q < 4, ∀ y < 8, ∀ x < 8,
    0x23C0 ||| (q <<< 10) ||| (y <<< 3) ||| x = 0x23C0 + 0x400 * q + 8 * y + x := by decide

theorem and_0C00_eq (n : Nat) : n &&& 0x0C00 = (n / 0x400 % 4) <<< 10 := by
  have mask : 0x0C00 = (2 ^ 2 - 1) <<< 10 := rfl
  refine Nat.eq_of_testBit_eq fun i => ?_
  rw [mask, Nat.testBit_and, Nat.testBit_shiftLeft, Nat.testBit_two_pow_sub_one, Nat.testBit_shiftLeft,
    show n / 0x400 % 4 = n / 2 ^ 10 % 2 ^ 2 from rfl, Nat.testBit_mod_two_pow, Nat.testBit_div_two_pow]
  by_cases above : 10 ≤ i
  · simp [above, Bool.and_comm]
  · simp [above]

theorem attributeAddr_eq (v : Word) :
    attributeAddr v = BitVec.ofNat 16 (0x23C0 + 0x400 * (v.toNat / 0x400 % 4) + 8 * ((coarseY v).toNat / 4)
      + (coarseX v).toNat / 4) := by
  have y := (coarseY v).isLt
  have x := (coarseX v).isLt
  have row : (((coarseY v >>> 2).setWidth 16) <<< 3 : Word).toNat = ((coarseY v).toNat / 4) <<< 3 := by
    simp [Nat.shiftLeft_eq, Nat.shiftRight_eq_div_pow]
    omega
  have column : ((coarseX v >>> 2).setWidth 16 : Word).toNat = (coarseX v).toNat / 4 := by
    simp [Nat.shiftRight_eq_div_pow]
    omega
  refine BitVec.eq_of_toNat_eq ?_
  calc (attributeAddr v).toNat
    _ = 0x23C0 ||| (v.toNat &&& 0x0C00) ||| (((coarseY v >>> 2).setWidth 16) <<< 3 : Word).toNat |||
        ((coarseX v >>> 2).setWidth 16 : Word).toNat := rfl
    _ = 0x23C0 + 0x400 * (v.toNat / 0x400 % 4) + 8 * ((coarseY v).toNat / 4) + (coarseX v).toNat / 4 := by
      rw [and_0C00_eq, row, column]
      exact attributeAddr_parts _ (Nat.mod_lt _ (by decide)) _ (by omega) _ (by omega)
    _ = _ := by rw [BitVec.toNat_ofNat]; omega

theorem getLsbD_one_eq {n : Nat} (x : BitVec n) : x.getLsbD 1 = decide (x.toNat / 2 % 2 = 1) :=
  Nat.testBit_eq_decide_div_mod_eq

/-- The quadrant's two bits of an attribute byte (R374). -/
theorem attributeQuadrant_eq (v : Word) (a : Byte) :
    attributeQuadrant v a =
      BitVec.ofNat 2 (a.toNat / 4 ^ (2 * ((coarseY v).toNat / 2 % 2) + (coarseX v).toNat / 2 % 2)) := by
  refine BitVec.eq_of_toNat_eq ?_
  rw [attributeQuadrant, getLsbD_one_eq, getLsbD_one_eq]
  rcases Nat.mod_two_eq_zero_or_one ((coarseY v).toNat / 2) with hy | hy <;>
    rcases Nat.mod_two_eq_zero_or_one ((coarseX v).toNat / 2) with hx | hx <;>
    simp [hy, hx, Nat.shiftRight_eq_div_pow]

theorem patternBase_toNat (half : Bool) : (patternBase half).toNat = 0x1000 * half.toNat := by cases half <;> rfl

/-- The address of the tile's row (R375). -/
theorem bgPatternAddr_eq (p : Ppu) :
    bgPatternAddr p =
      BitVec.ofNat 16 (0x1000 * (p.ctrl.getLsbD 4).toNat + 16 * p.nextId.toNat + (fineY p.v).toNat) := by
  have id := p.nextId.isLt
  have fine := (fineY p.v).isLt
  have half := (p.ctrl.getLsbD 4).toNat_le
  refine BitVec.eq_of_toNat_eq ?_
  rw [bgPatternAddr, BitVec.toNat_add, BitVec.toNat_add, patternBase_toNat, Ppu.patternBg]
  simp only [BitVec.toNat_shiftLeft, BitVec.toNat_setWidth, Nat.shiftLeft_eq, BitVec.toNat_ofNat]
  omega

section
variable (cart : Option Cartridge) (p : Ppu)

/-- The load by its numbers (R376). -/
theorem loadBgShifters_eq :
    let loaded := fun (b : Byte) (w : Word) => BitVec.ofNat 16 (256 * (w.toNat / 256) + b.toNat)
    let spread := fun b : Bool => if b then (0xFF : Byte) else 0x00
    loadBgShifters p = { p with
      bgPatLo := loaded p.nextLo p.bgPatLo, bgPatHi := loaded p.nextHi p.bgPatHi
      bgAttrLo := loaded (spread (p.nextAttr.getLsbD 0)) p.bgAttrLo
      bgAttrHi := loaded (spread (p.nextAttr.getLsbD 1)) p.bgAttrHi } := by
  simp only [loadBgShifters, loadLow_eq_ofNat]

theorem fetchNametable_eq :
    fetchNametable cart p =
      { p with nextId := ppuRead cart p (BitVec.ofNat 16 (0x2000 + p.v.toNat % 0x1000)) } := by
  rw [fetchNametable, nametableAddr_eq]

theorem fetchAttribute_eq :
    let byte := ppuRead cart p (BitVec.ofNat 16 (0x23C0 + 0x400 * (p.v.toNat / 0x400 % 4)
      + 8 * ((coarseY p.v).toNat / 4) + (coarseX p.v).toNat / 4))
    fetchAttribute cart p =
      { p with nextAttr :=
          BitVec.ofNat 2 (byte.toNat / 4 ^ (2 * ((coarseY p.v).toNat / 2 % 2) + (coarseX p.v).toNat / 2 % 2)) } := by
  rw [fetchAttribute, attributeAddr_eq, attributeQuadrant_eq]

theorem fetchPatternLo_eq :
    let row := 0x1000 * (p.ctrl.getLsbD 4).toNat + 16 * p.nextId.toNat + (fineY p.v).toNat
    fetchPatternLo cart p = { p with nextLo := ppuRead cart p (BitVec.ofNat 16 row) } := by
  rw [fetchPatternLo, bgPatternAddr_eq]

theorem fetchPatternHi_eq :
    let row := 0x1000 * (p.ctrl.getLsbD 4).toNat + 16 * p.nextId.toNat + (fineY p.v).toNat
    fetchPatternHi cart p = { p with nextHi := ppuRead cart p (BitVec.ofNat 16 (row + 8)) } := by
  intro row
  rw [fetchPatternHi, bgPatternAddr_eq, BitVec.ofNat_add row 8]
  rfl

/-- The shifter update changes the background shifters and the sprite units alone. -/
theorem updateShifters_eq :
    ∃ patLo patHi attrLo attrHi units, updateShifters p =
      { p with bgPatLo := patLo, bgPatHi := patHi, bgAttrLo := attrLo, bgAttrHi := attrHi, sprites := units } :=
  ⟨_, _, _, _, _, (shifterUpdate p).1⟩

end

/-- Settles O53: what a phase reads, but for the shifters, is what it was before the shifter update. -/
theorem tileFetches : Obligations.TileFetches := by
  unfold Obligations.TileFetches
  intro cart p
  obtain ⟨patLo, patHi, attrLo, attrHi, units, updated⟩ := updateShifters_eq p
  intro u loaded spread name attrByte quadrant row loadedInto
  refine ⟨loadBgShifters_eq p, fetchNametable_eq cart p, ?_⟩
  have same : u = _ := updated
  rw [processTile, show updateShifters p = u from rfl]
  clear_value u
  subst same
  dsimp only
  generalize (p.cycle - 1) % 8 = phase
  match phase with
  | 0 => exact (congrArg (fetchNametable cart) (loadBgShifters_eq _)).trans (fetchNametable_eq cart _)
  | 2 => exact fetchAttribute_eq cart _
  | 4 => exact fetchPatternLo_eq cart _
  | 6 => exact fetchPatternHi_eq cart _
  | 1 | 3 | 5 | 7 | _ + 8 => rfl

/-! ### Sprite evaluation (R385) -/

theorem clearShifters_toList (u : SpriteUnits) :
    u.clearShifters.toList = u.toList.map fun e => { e with patLo := 0, patHi := 0 } := rfl

/-- A taken entry lands in the unit the count names. -/
def Ppu.takenInto (p : Ppu) (n : Nat) (e : SpriteUnit) : SpriteUnit :=
  { e with y := p.oamField n 0, id := p.oamField n 1, attr := p.oamField n 2, x := p.oamField n 3 }

theorem getElem?_collectSprite (n k : Nat) (p : Ppu) :
    (collectSprite n p).sprites.toList[k]? =
      p.sprites.toList[k]?.map fun e => if p.spriteCount = k then p.takenInto n e else e :=
  getElem?_mapAt ..

/-- OAM entries taken one after another. -/
def collectAll (ns : List Nat) (p : Ppu) : Ppu := ns.foldl (fun p n => collectSprite n p) p

theorem collectAll_cons (n : Nat) (ns : List Nat) (p : Ppu) :
    collectAll (n :: ns) p = collectAll ns (collectSprite n p) := rfl

/-- Taking entries counts them, remembers entry 0 and changes nothing else but the units. -/
theorem collectAll_frame (ns : List Nat) (p : Ppu) :
    collectAll ns p = { p with
      spriteCount := p.spriteCount + ns.length, sprite0Possible := p.sprite0Possible || ns.contains 0
      sprites := (collectAll ns p).sprites } := by
  induction ns generalizing p with
  | nil => simp [collectAll]
  | cons n ns ih =>
    have count : p.spriteCount + 1 + ns.length = p.spriteCount + (n :: ns).length := by
      rw [List.length_cons]
      omega
    have possible : (p.sprite0Possible || decide (n = 0) || ns.contains 0) =
        (p.sprite0Possible || (n :: ns).contains 0) := by
      simp [Bool.or_assoc, eq_comm]
    rw [collectAll_cons, ← count, ← possible]
    exact ih (collectSprite n p)

/-- Each entry taken lands in its own unit, from the one the count named on. -/
theorem getElem?_collectAll (ns : List Nat) (k : Nat) (p : Ppu) :
    (collectAll ns p).sprites.toList[k]? =
      p.sprites.toList[k]?.map fun e =>
        if p.spriteCount ≤ k then (ns[k - p.spriteCount]?).elim e (p.takenInto · e) else e := by
  induction ns generalizing p with
  | nil => simp [collectAll]
  | cons n ns ih =>
    have fields : (collectSprite n p).takenInto = p.takenInto := rfl
    have count : (collectSprite n p).spriteCount = p.spriteCount + 1 := rfl
    rw [collectAll_cons, ih, getElem?_collectSprite, Option.map_map, fields, count]
    refine congrArg (Option.map · _) (funext fun e => ?_)
    rw [Function.comp]
    rcases Nat.lt_trichotomy p.spriteCount k with before | here | after
    · have next : k - p.spriteCount = k - (p.spriteCount + 1) + 1 := by omega
      simp only [Nat.succ_le_of_lt before, Nat.ne_of_lt before, Nat.le_of_lt before, next, List.getElem?_cons_succ,
        if_true, if_false]
    · rw [here, if_neg (by omega), if_pos rfl, if_pos (Nat.le_refl k), Nat.sub_self]
      rfl
    · rw [if_neg (by omega), if_neg (by omega), if_neg (by omega)]

/-- The scan takes the entries on the line while there is room, and sets the overflow flag where one is left over. -/
theorem scanOam_eq (ns : List Nat) (p : Ppu) (room : p.spriteCount ≤ 8) :
    let selected := ns.filter p.spriteOnLine
    let q := collectAll (selected.take (8 - p.spriteCount)) p
    scanOam ns p = if 8 - p.spriteCount < selected.length then q.setSpriteOverflow true else q := by
  induction ns generalizing p with
  | nil => simp [scanOam, collectAll]
  | cons n ns ih =>
    by_cases onLine : p.spriteOnLine n = true
    · rw [scanOam, if_pos onLine, List.filter_cons_of_pos onLine]
      by_cases full : p.spriteCount < 8
      · have line : (collectSprite n p).spriteOnLine = p.spriteOnLine := rfl
        have count : (collectSprite n p).spriteCount = p.spriteCount + 1 := rfl
        have left : 8 - p.spriteCount = (8 - (p.spriteCount + 1)) + 1 := by omega
        simp only [if_pos full, ih (collectSprite n p) full, line, count, left, List.take_succ_cons, collectAll_cons,
          List.length_cons, Nat.add_lt_add_iff_right]
      · have none : 8 - p.spriteCount = 0 := by omega
        simp only [if_neg full, none, List.length_cons, Nat.succ_pos, if_true, List.take_zero]
        rfl
    · rw [scanOam, if_neg onLine, List.filter_cons_of_neg onLine]
      exact ih p room

/-- Entry 0 comes first, so it is among the first taken where it is on the line. -/
theorem zero_mem_take_filter_range (f : Nat → Bool) (m k : Nat) :
    0 ∈ ((List.range (m + 1)).filter f).take (k + 1) ↔ 0 ∈ (List.range (m + 1)).filter f := by
  rw [List.range_succ_eq_map]
  by_cases first : f 0 = true
  · rw [List.filter_cons_of_pos first, List.take_succ_cons]
    simp
  · rw [List.filter_cons_of_neg first]
    have absent : 0 ∉ ((List.range m).map Nat.succ).filter f := by simp
    exact iff_of_false (mt List.mem_of_mem_take absent) absent

/-- The PPU as the evaluation begins (R385). -/
def Ppu.clearedForEvaluation (p : Ppu) : Ppu :=
  { p with spriteCount := 0, sprite0Possible := false, sprites := p.sprites.clearShifters }

theorem oamEvaluate_eq (p : Ppu) :
    let selected := (List.range 64).filter p.spriteOnLine
    let taken := collectAll (selected.take 8) p.clearedForEvaluation
    oamEvaluate p = { p with
      spriteCount := min 8 selected.length, sprite0Possible := selected.contains 0
      status := if 8 < selected.length then setBit 5 true p.status else p.status, sprites := taken.sprites } := by
  intro selected taken
  have scanned : oamEvaluate p = if 8 < selected.length then taken.setSpriteOverflow true else taken :=
    scanOam_eq (List.range 64) p.clearedForEvaluation (Nat.zero_le 8)
  have frame : taken = _ := collectAll_frame (selected.take 8) p.clearedForEvaluation
  have count : 0 + (selected.take 8).length = min 8 selected.length := by simp
  have possible : (false || (selected.take 8).contains 0) = selected.contains 0 := by
    rw [Bool.false_or, Bool.eq_iff_iff, List.contains_iff_mem, List.contains_iff_mem]
    exact zero_mem_take_filter_range p.spriteOnLine 63 7
  rw [← count, ← possible, scanned]
  split
  · exact congrArg (Ppu.setSpriteOverflow true) frame
  · exact frame

/-- Each unit after the evaluation: the entry taken into it, if any, over cleared shifters. -/
theorem getElem?_oamEvaluate (p : Ppu) (k : Nat) :
    (oamEvaluate p).sprites.toList[k]? = p.sprites.toList[k]?.map fun e =>
      ((((List.range 64).filter p.spriteOnLine).take 8)[k]?).elim { e with patLo := 0, patHi := 0 }
        (p.takenInto · { e with patLo := 0, patHi := 0 }) := by
  rw [oamEvaluate_eq]
  dsimp only
  rw [getElem?_collectAll, Ppu.clearedForEvaluation, clearShifters_toList, List.getElem?_map, Option.map_map]
  simp only [Nat.zero_le, if_true, Nat.sub_zero]
  rfl

/-- Settles O54: the scan is the entries on the line taken up to the eighth, over cleared shifters. -/
theorem spriteEvaluation : Obligations.SpriteEvaluation := by
  unfold Obligations.SpriteEvaluation
  intro p rows y selected q
  have line : (List.range 64).filter p.spriteOnLine = selected :=
    congrArg (List.filter · _) (funext fun n => (Bool.decide_and ..).symm)
  have evaluated : q = _ := oamEvaluate_eq p
  have units (k : Nat) : q.sprites.toList[k]? = _ := getElem?_oamEvaluate p k
  rw [line] at evaluated units
  have status : q.status = if 8 < selected.length then setBit 5 true p.status else p.status :=
    congrArg Ppu.status evaluated
  refine ⟨congrArg Ppu.spriteCount evaluated, congrArg Ppu.sprite0Possible evaluated, ?_, ?_, fun k hk other => ?_,
    fun k n hk taken => ?_, fun e member => ?_⟩
  · rw [Ppu.spriteOverflow, status, Ppu.spriteOverflow]
    by_cases ninth : 8 < selected.length
    · rw [if_pos ninth, getLsbD_setBit 5 true p.status (by decide), if_pos rfl, decide_eq_true ninth, Bool.or_true]
    · rw [if_neg ninth, decide_eq_false ninth, Bool.or_false]
  · rw [evaluated]
  · rw [status]
    split
    · rw [getLsbD_setBit 5 true p.status (by decide), if_neg other]
    · rfl
  · have unit : p.sprites.toList[k]? = some (p.sprites.toList[k]'hk) := List.getElem?_eq_getElem hk
    rw [units, unit, List.getElem?_take_of_lt hk, taken]
    rfl
  · obtain ⟨k, found⟩ := List.mem_iff_getElem?.1 member
    rw [units, Option.map_eq_some_iff] at found
    obtain ⟨e', -, rfl⟩ := found
    cases (selected.take 8)[k]? <;> exact ⟨rfl, rfl⟩

/-! ### Sprite fetch (R386, R387) -/

/-- R387's three swaps reverse a byte. -/
theorem getLsbD_rev8 : ∀ (b : Byte), ∀ k < 8, (rev8 b).getLsbD k = b.getLsbD (7 - k) := by decide

/-- The parts of a sprite's pattern address do not overlap. -/
theorem patternAddr_toNat (half : Bool) (tile : Byte) {row : Word} {r : Nat} (hr : row.toNat = r) (low : r < 16) :
    (patternBase half ||| (tile.setWidth 16 <<< 4) ||| row).toNat = 0x1000 * half.toNat + 16 * tile.toNat + r := by
  have hi := tile.isLt
  have shifted : (tile.setWidth 16 <<< 4 : Word).toNat = 16 * tile.toNat := by
    simp only [BitVec.toNat_shiftLeft, BitVec.toNat_setWidth, Nat.shiftLeft_eq]
    omega
  have table : 0x1000 * half.toNat ||| 16 * tile.toNat = 0x1000 * half.toNat + 16 * tile.toNat :=
    (Nat.two_pow_add_eq_or_of_lt (i := 12) (by omega) half.toNat).symm
  have inTile := Nat.two_pow_add_eq_or_of_lt (i := 4) (b := r) low (0x100 * half.toNat + tile.toNat)
  rw [BitVec.toNat_or, BitVec.toNat_or, patternBase_toNat, shifted, hr, table,
    show 0x1000 * half.toNat + 16 * tile.toNat = 2 ^ 4 * (0x100 * half.toNat + tile.toNat) by omega, ← inTile]

/-- The row of an 8 by 8 sprite, flipped or not. -/
theorem smallRow_toNat : ∀ row : Nat, row < 8 → ∀ flip : Bool,
    (if flip then 7 - BitVec.ofInt 16 row else BitVec.ofInt 16 row : Word).toNat = if flip then 7 - row else row := by
  decide

/-- The row of an 8 by 16 sprite inside its tile, flipped or not. -/
theorem largeRow_toNat : ∀ row : Nat, row < 16 → ∀ flip : Bool,
    (if flip then (7 - BitVec.ofInt 16 row) &&& 7 else BitVec.ofInt 16 row &&& 7 : Word).toNat =
      (if flip then 15 - row else row) % 8 := by
  decide

/-- The tile of an 8 by 16 sprite: of the pair with the even number below it, the one the row is in. -/
theorem largeTile_toNat (row : Nat) (below : row < 16) (flip : Bool) (id : Byte) :
    (if decide ((row : Int) < 8) != flip then id &&& 0xFE else (id &&& 0xFE) + 1).toNat =
      id.toNat / 2 * 2 + (if flip then 15 - row else row) / 8 := by
  have even : ∀ id : Byte,
      (id &&& 0xFE).toNat = id.toNat / 2 * 2 ∧ ((id &&& 0xFE) + 1).toNat = id.toNat / 2 * 2 + 1 := by
    decide
  obtain ⟨upper, lower⟩ := even id
  by_cases top : row < 8
  · rw [decide_eq_true (by omega : (row : Int) < 8)]
    cases flip
    · exact upper.trans (by simp only [Bool.false_eq_true, if_false]; omega)
    · exact lower.trans (by simp only [if_true]; omega)
  · rw [decide_eq_false (by omega : ¬ (row : Int) < 8)]
    cases flip
    · exact lower.trans (by simp only [Bool.false_eq_true, if_false]; omega)
    · exact upper.trans (by simp only [if_true]; omega)

/-- Settles O55: no part of a pattern address overlaps another, and each unit is fetched on its own. -/
theorem spritePatterns : Obligations.SpritePatterns := by
  unfold Obligations.SpritePatterns
  refine ⟨getLsbD_rev8, fun half row id attr below => ?_, fun half row id attr below => ?_, fun _ _ => rfl,
    fun cart p k e unit => ?_⟩
  · exact patternAddr_toNat half id (smallRow_toNat row below (attr.getLsbD 7)) (by split <;> omega)
  · intro shown
    have row' : (if attr.getLsbD 7 then (7 - BitVec.ofInt 16 row) &&& 7 else BitVec.ofInt 16 row &&& 7 : Word).toNat =
        shown % 8 := largeRow_toNat row below (attr.getLsbD 7)
    have tile := largeTile_toNat row below (attr.getLsbD 7) id
    have half : (id.getLsbD 0).toNat = id.toNat % 2 := by
      rw [getLsbD_zero_eq]
      rcases Nat.mod_two_eq_zero_or_one id.toNat with h | h <;> simp [h]
    refine (patternAddr_toNat (id.getLsbD 0) _ row' (by omega)).trans ?_
    rw [half, tile]
  · intro addr lo hi
    rw [spriteFetch]
    dsimp only
    rw [getElem?_mapBelow, unit]
    rfl

end Sys2Proof.Machine
end


section
/-! The PPU clock family: the pixel, and the events of a frame. -/

namespace Sys2Proof.Machine

/-! ### The background pixel (R390) -/

theorem twoBits_toNat : ∀ hi lo : Bool, (twoBits hi lo).toNat = 2 * hi.toNat + lo.toNat := by decide

/-- The mask of R390 selects one bit of a shifter. -/
theorem shifterBit_eq (p : Ppu) (w : Word) : p.shifterBit w = w.getLsbD (15 - p.fineX.toNat) := by
  have mask : ∀ f : BitVec 3, (0x8000 : Word) >>> f.toNat = BitVec.twoPow 16 (15 - f.toNat) := by decide
  have one : ∀ f : BitVec 3, (BitVec.twoPow 16 (15 - f.toNat) != 0) = true := by decide
  rw [Ppu.shifterBit, mask, BitVec.and_twoPow]
  cases w.getLsbD (15 - p.fineX.toNat)
  · rfl
  · exact one p.fineX

theorem bgPixel_toNat (p : Ppu) :
    (bgPixel p).toNat =
      if p.mask.getLsbD 3 then
        2 * (p.bgPatHi.getLsbD (15 - p.fineX.toNat)).toNat + (p.bgPatLo.getLsbD (15 - p.fineX.toNat)).toNat
      else 0 := by
  rw [bgPixel, Ppu.renderBackground]
  split
  · rw [twoBits_toNat, shifterBit_eq, shifterBit_eq]
  · rfl

theorem bgPalette_toNat (p : Ppu) :
    (bgPalette p).toNat =
      if p.mask.getLsbD 3 then
        2 * (p.bgAttrHi.getLsbD (15 - p.fineX.toNat)).toNat + (p.bgAttrLo.getLsbD (15 - p.fineX.toNat)).toNat
      else 0 := by
  rw [bgPalette, Ppu.renderBackground]
  split
  · rw [twoBits_toNat, shifterBit_eq, shifterBit_eq]
  · rfl

/-! ### The sprite pixel (R391) -/

/-- A unit that shows a pixel here (R391). -/
def SpriteUnit.Shows (e : SpriteUnit) : Prop := e.x = 0 ∧ e.pixel ≠ 0

/-- The unit found is the first that shows a pixel. -/
theorem firstOpaque_some {es : List SpriteUnit} {i j : Nat} {e : SpriteUnit} (found : firstOpaque i es = some (j, e)) :
    ∃ k, j = i + k ∧ es[k]? = some e ∧ e.Shows ∧ ∀ m < k, ∀ e', es[m]? = some e' → ¬ e'.Shows := by
  induction es generalizing i with
  | nil => cases found
  | cons d es ih =>
    rw [firstOpaque] at found
    split at found
    · next shows =>
      cases found
      exact ⟨0, rfl, rfl, shows, nofun⟩
    · next hidden =>
      obtain ⟨k, place, unit, shows, before⟩ := ih found
      refine ⟨k + 1, by omega, unit, shows, fun m hm e' other => ?_⟩
      cases m with
      | zero => cases other; exact hidden
      | succ m => exact before m (by omega) e' other

/-- Where none is found, no unit shows a pixel. -/
theorem firstOpaque_none {es : List SpriteUnit} {i : Nat} (found : firstOpaque i es = none) :
    ∀ (m : Nat) (e : SpriteUnit), es[m]? = some e → ¬ e.Shows := by
  induction es generalizing i with
  | nil => simp
  | cons d es ih =>
    rw [firstOpaque] at found
    split at found
    · cases found
    · next hidden =>
      intro m e unit
      cases m with
      | zero => cases unit; exact hidden
      | succ m => exact ih found m e unit

section
variable {p : Ppu}

theorem fgSprite_some {i : Nat} {e : SpriteUnit} (found : fgSprite p = some (i, e)) :
    p.mask.getLsbD 4 = true ∧ i < p.spriteCount ∧ p.sprites.toList[i]? = some e ∧ e.x = 0 ∧ e.pixel ≠ 0 ∧
      ∀ j < i, ∀ e', p.sprites.toList[j]? = some e' → ¬ (e'.x = 0 ∧ e'.pixel ≠ 0) := by
  rw [fgSprite] at found
  split at found
  · next on =>
    obtain ⟨k, rfl, unit, ⟨x, pixel⟩, before⟩ := firstOpaque_some found
    rw [Nat.zero_add]
    rw [List.getElem?_take] at unit
    split at unit
    · next inside =>
      refine ⟨on, inside, unit, x, pixel, fun j hj e' other => before j hj e' ?_⟩
      rw [List.getElem?_take_of_lt (by omega), other]
    · cases unit
  · cases found

theorem fgSprite_none (found : fgSprite p = none) (on : p.mask.getLsbD 4 = true) :
    ∀ j < p.spriteCount, ∀ e, p.sprites.toList[j]? = some e → ¬ (e.x = 0 ∧ e.pixel ≠ 0) := by
  rw [fgSprite, if_pos (show p.renderSprites = true from on)] at found
  intro j hj e unit
  exact firstOpaque_none found j e (by rw [List.getElem?_take_of_lt hj, unit])

theorem fgSprite_of_off (off : p.mask.getLsbD 4 = false) : fgSprite p = none :=
  if_neg (by rw [Ppu.renderSprites, off]; exact Bool.false_ne_true)

/-- Unit 0 gives the sprite pixel (R391). -/
theorem renderingSprite0_eq :
    renderingSprite0 p = if p.mask.getLsbD 4 then (fgSprite p).map (·.1) == some 0 else p.sprite0Rendering := by
  rw [renderingSprite0, Ppu.renderSprites]
  split
  · cases fgSprite p with
    | none => rfl
    | some found => exact Bool.eq_iff_iff.2 (by simp)
  · rfl

/-! ### The output (R392 to R394) -/

/-- The palette of a sprite is one of the upper four (R392). -/
theorem spritePalette_eq : ∀ attr : Byte,
    (attr.extractLsb' 0 2).setWidth 3 + 4 = BitVec.ofNat 3 (attr.toNat % 4 + 4) := by decide

theorem outputPixel_eq :
    outputPixel p =
      match fgSprite p with
      | none => if bgPixel p = 0 then (0, 0) else ((bgPalette p).setWidth 3, bgPixel p)
      | some (_, e) =>
        if bgPixel p = 0 ∨ e.attr.getLsbD 5 = false then (BitVec.ofNat 3 (e.attr.toNat % 4 + 4), e.pixel)
        else ((bgPalette p).setWidth 3, bgPixel p) := by
  rw [outputPixel]
  cases fgSprite p with
  | none => rfl
  | some found =>
    dsimp only
    rw [spritePalette_eq]
    by_cases transparent : bgPixel p = 0
    · rw [if_pos transparent, if_pos (.inl transparent)]
    · cases behind : found.2.attr.getLsbD 5
      · rw [if_neg transparent, if_neg Bool.false_ne_true, if_pos (.inr rfl)]
      · rw [if_neg transparent, if_pos rfl, if_neg (not_or.2 ⟨transparent, nofun⟩)]

/-- The hit's condition (R392): a unit 0 that shows is what `sprite0_rendering` records. -/
theorem spriteZeroHits_eq :
    spriteZeroHits p =
      (p.sprite0Possible && p.mask.getLsbD 3 && p.mask.getLsbD 4 && bgPixel p != 0 &&
        ((fgSprite p).map (·.1) == some 0) &&
        decide ((if p.mask.getLsbD 1 && p.mask.getLsbD 2 then 1 else 9) ≤ p.cycle ∧ p.cycle < 258)) := by
  have bounds : decide ((if p.mask.getLsbD 1 && p.mask.getLsbD 2 then 1 else 9) ≤ p.cycle ∧ p.cycle < 258) =
      (decide (p.firstHitCycle ≤ p.cycle) && decide (p.cycle < 258)) := Bool.decide_and ..
  have first : ((fgSprite p).map (·.1) == some 0) = ((fgSprite p).isSome && ((fgSprite p).map (·.1) == some 0)) := by
    cases fgSprite p <;> rfl
  rw [spriteZeroHits, renderingSprite0_eq, bounds, first, Ppu.renderBackground, Ppu.renderSprites]
  cases p.mask.getLsbD 4
  · simp
  · simp only [if_true]
    ac_rfl

/-- The palette address of the output (R394). -/
theorem colourIndex_eq (cart : Option Cartridge) :
    colourIndex cart p =
      BitVec.ofNat 6
        ((ppuRead cart p (BitVec.ofNat 16 (0x3F00 + 4 * (outputPixel p).1.toNat + (outputPixel p).2.toNat))).toNat %
          64) := by
  have addr : BitVec.ofNat 16 0x3F00 + ((outputPixel p).1.setWidth 16 <<< 2) + (outputPixel p).2.setWidth 16 =
      BitVec.ofNat 16 (0x3F00 + 4 * (outputPixel p).1.toNat + (outputPixel p).2.toNat) := by
    have palette := (outputPixel p).1.isLt
    have pixel := (outputPixel p).2.isLt
    refine BitVec.eq_of_toNat_eq ?_
    simp only [BitVec.toNat_add, BitVec.toNat_shiftLeft, BitVec.toNat_setWidth, Nat.shiftLeft_eq, BitVec.toNat_ofNat]
    omega
  refine (congrArg (fun a => (ppuRead cart p a).extractLsb' 0 6) addr).trans ?_
  exact BitVec.eq_of_toNat_eq (by simp)

theorem composePixel_status (cart : Option Cartridge) :
    (composePixel cart p).status = if spriteZeroHits p then setBit 6 true p.status else p.status := rfl

theorem composePixel_spriteZeroHit (cart : Option Cartridge) :
    (composePixel cart p).spriteZeroHit = (p.spriteZeroHit || spriteZeroHits p) := by
  rw [Ppu.spriteZeroHit, composePixel_status, Ppu.spriteZeroHit]
  cases spriteZeroHits p
  · rw [if_neg Bool.false_ne_true, Bool.or_false]
  · rw [if_pos rfl, getLsbD_setBit 6 true p.status (by decide), if_pos rfl, Bool.or_true]

/-- The pixel writes no STATUS flag but the hit (R392). -/
theorem composePixel_status_other (cart : Option Cartridge) {k : Nat} (other : k ≠ 6) :
    (composePixel cart p).status.getLsbD k = p.status.getLsbD k := by
  rw [composePixel_status]
  split
  · rw [getLsbD_setBit 6 true p.status (by decide), if_neg other]
  · rfl

/-- The pixel of a visible position goes to its own place in the frame buffer (R57, R394). -/
theorem composePixel_fb (cart : Option Cartridge) {row column : Nat} (line : p.scanline = row)
    (dot : p.cycle = column + 1) :
    (composePixel cart p).fb =
      p.fb.write Config.frameBufferInit (256 * row + column) (Config.paletteArgb (colourIndex cart p)) := by
  rw [composePixel, line, dot]
  rfl

end

/-- Settles O56, stage by stage of the pixel. -/
theorem visiblePixel : Obligations.VisiblePixel := by
  unfold Obligations.VisiblePixel
  intro cart p k q
  refine ⟨bgPixel_toNat p, bgPalette_toNat p, fun i e => fgSprite_some, fgSprite_none, renderingSprite0_eq,
    outputPixel_eq, ?_, fun row column _ _ line dot => ⟨fun wf => ?_, fun n other => ?_⟩, rfl,
    fun k _ other => composePixel_status_other cart other⟩
  · rw [composePixel_spriteZeroHit, spriteZeroHits_eq]
  · rw [composePixel_fb cart line dot, Memory.read_write_same _ wf, colourIndex_eq]
  · rw [composePixel_fb cart line dot, Memory.read_write_other _ _ _ other]

/-! ### The tags of a position, and the pixel (R372) -/

/-- R372's table in its order, then the pixel: each tag with its action. -/
def tagTable (cart : Option Cartridge) : List ((Ppu → Bool) × (Ppu → Ppu)) :=
  [(Ppu.atPreRenderClear, preRenderClear), (Ppu.atTransferY, transferY), (Ppu.atProcessTile, processTile cart),
   (Ppu.atIncrementY, incrementScrollY), (Ppu.atTransferX, loadBgShifters), (Ppu.atTransferX, transferX),
   (Ppu.atExtraFetch, fetchNametable cart), (Ppu.atOamEvaluation, oamEvaluate), (Ppu.atSpriteFetch, spriteFetch cart),
   (Ppu.atEndOfFrame, endOfFrame), (Ppu.atVisiblePixel, composePixel cart)]

/-- The position, all that a tag depends on. -/
def Ppu.place (p : Ppu) : Int × Nat := (p.scanline, p.cycle)

theorem TagFrame.place {p q : Ppu} (frame : TagFrame p q) : q.place = p.place :=
  Prod.ext frame.scanline frame.cycle

/-- A tag that depends on the position alone, with an action that leaves the position alone. -/
structure Placed (tag : (Ppu → Bool) × (Ppu → Ppu)) : Prop where
  here : ∀ p q : Ppu, q.scanline = p.scanline → q.cycle = p.cycle → tag.1 q = tag.1 p
  kept : ∀ p : Ppu, (tag.2 p).place = p.place

/-- R372 names its positions by scanline and cycle, and no action moves them. -/
theorem tagTable_placed (cart : Option Cartridge) : ∀ tag ∈ tagTable cart, Placed tag := by
  have here : ∀ tag ∈ tagTable cart, ∀ p q : Ppu, q.scanline = p.scanline → q.cycle = p.cycle → tag.1 q = tag.1 p := by
    simp +contextual [tagTable, Ppu.atPreRenderClear, Ppu.atTransferY, Ppu.atProcessTile, Ppu.atIncrementY,
      Ppu.atTransferX, Ppu.atExtraFetch, Ppu.atOamEvaluation, Ppu.atSpriteFetch, Ppu.atEndOfFrame, Ppu.atVisiblePixel,
      Ppu.onVisibleLine, Ppu.onRenderLine]
  have kept : ∀ tag ∈ tagTable cart, ∀ p : Ppu, (tag.2 p).place = p.place := by
    simp only [tagTable, List.forall_mem_cons]
    exact ⟨fun p => (tagFrame_preRenderClear p).place, fun p => (tagFrame_transferY p).place,
      fun p => (tagFrame_processTile cart p).place, fun p => (tagFrame_incrementScrollY p).place,
      fun p => (tagFrame_loadBgShifters p).place, fun p => (tagFrame_transferX p).place,
      fun p => (tagFrame_fetchNametable cart p).place, fun p => (tagFrame_oamEvaluate p).place,
      fun p => (tagFrame_spriteFetch cart p).place, fun p => (tagFrame_endOfFrame p).place, fun _ => rfl, nofun⟩
  exact fun tag listed => ⟨here tag listed, kept tag listed⟩

/-- Actions run one after another where their tags match, each tag read at the state the actions before left. -/
theorem foldl_whenTag {tags : List ((Ppu → Bool) × (Ppu → Ppu))} (placed : ∀ tag ∈ tags, Placed tag) {p q : Ppu}
    (same : q.place = p.place) :
    tags.foldl (fun q tag => whenTag tag.1 tag.2 q) q =
      (tags.map fun tag => (tag.1 p, tag.2)).foldl (fun q tag => if tag.1 then tag.2 q else q) q := by
  induction tags generalizing q with
  | nil => rfl
  | cons tag tags ih =>
    obtain ⟨first, rest⟩ := List.forall_mem_cons.1 placed
    rw [List.foldl_cons, List.map_cons, List.foldl_cons, whenTag,
      first.here p q (congrArg Prod.fst same) (congrArg Prod.snd same)]
    refine ih rest ?_
    split
    · exact (first.kept q).trans same
    · exact same

/-- The X transfer's two actions share a tag, which the first leaves as it is (R379). -/
theorem whenTag_transferX (p : Ppu) :
    whenTag Ppu.atTransferX (fun p => transferX (loadBgShifters p)) p =
      whenTag Ppu.atTransferX transferX (whenTag Ppu.atTransferX loadBgShifters p) := by
  unfold whenTag
  by_cases here : p.atTransferX = true
  · have still : (loadBgShifters p).atTransferX = true := here
    rw [if_pos here, if_pos here, if_pos still]
  · rw [if_neg here, if_neg here, if_neg here]

theorem ppuClock_eq_foldl (cart : Option Cartridge) (p : Ppu) :
    ppuClock cart p = advance ((tagTable cart).foldl (fun q tag => whenTag tag.1 tag.2 q) p) := by
  rw [ppuClock, tagActions, whenTag_transferX]
  rfl

/-! ### The two frame events (R381, R384) -/

theorem preRenderClear_status : ∀ status : Byte,
    setBit 6 false (setBit 5 false (setBit 7 false status)) = status &&& 0x1F := by decide

theorem preRenderClear_eq (p : Ppu) :
    preRenderClear p = { p with status := p.status &&& 0x1F, sprites := p.sprites.clearShifters } := by
  rw [← preRenderClear_status]
  rfl

theorem endOfFrame_eq (p : Ppu) :
    endOfFrame p = { p with status := p.status ||| 0x80, nmiPending := p.nmiPending || p.ctrl.getLsbD 7 } := by
  have enabled : (p.setVerticalBlank true).enableNmi = p.ctrl.getLsbD 7 := rfl
  rw [endOfFrame, enabled]
  cases p.ctrl.getLsbD 7
  · rw [Bool.or_false]
    rfl
  · rw [Bool.or_true]
    rfl

/-- What the two events alone write of what a program sees: vertical blank and the NMI latch. -/
def Ppu.eventFlags (p : Ppu) : Bool × Bool := (p.verticalBlank, p.nmiPending)

theorem setBit_eventFlags (p : Ppu) {k : Nat} (hk : k < 7) (b : Bool) :
    Ppu.eventFlags { p with status := setBit k b p.status } = p.eventFlags := by
  refine Prod.ext ?_ rfl
  exact (getLsbD_setBit k b p.status (by omega) 7).trans (if_neg (by omega))

theorem incrementScrollX_eventFlags (p : Ppu) : (incrementScrollX p).eventFlags = p.eventFlags := by
  unfold incrementScrollX
  split
  · split <;> rfl
  · rfl

theorem incrementScrollY_eventFlags (p : Ppu) : (incrementScrollY p).eventFlags = p.eventFlags := by
  cases enabled : p.renderingEnabled
  · rw [(scroll_of_disabled enabled).2.1]
  · obtain ⟨v', written, -⟩ := incrementScrollY_fields enabled
    rw [written]
    rfl

theorem transferX_eventFlags (p : Ppu) : (transferX p).eventFlags = p.eventFlags := by
  unfold transferX
  split <;> rfl

theorem transferY_eventFlags (p : Ppu) : (transferY p).eventFlags = p.eventFlags := by
  unfold transferY
  split <;> rfl

theorem processTile_eventFlags (cart : Option Cartridge) (p : Ppu) :
    (processTile cart p).eventFlags = p.eventFlags := by
  obtain ⟨patLo, patHi, attrLo, attrHi, units, updated⟩ := updateShifters_eq p
  have shifted : (updateShifters p).eventFlags = p.eventFlags := by rw [updated]; rfl
  rw [← shifted, processTile]
  split
  case h_5 => exact incrementScrollX_eventFlags _
  all_goals rfl

theorem oamEvaluate_eventFlags (p : Ppu) : (oamEvaluate p).eventFlags = p.eventFlags := by
  rw [oamEvaluate_eq]
  split
  · exact setBit_eventFlags p (by decide) true
  · rfl

theorem composePixel_eventFlags (cart : Option Cartridge) (p : Ppu) :
    (composePixel cart p).eventFlags = p.eventFlags :=
  Prod.ext (composePixel_status_other cart (by decide)) rfl

theorem advance_eventFlags (p : Ppu) : (advance p).eventFlags = p.eventFlags := by
  unfold advance
  split
  · split <;> rfl
  · rfl

/-- Actions that keep the event flags keep them when they run one after another. -/
theorem foldl_eventFlags {tags : List (Bool × (Ppu → Ppu))}
    (keeps : ∀ tag ∈ tags, tag.1 = true → ∀ p, (tag.2 p).eventFlags = p.eventFlags) (p : Ppu) :
    (tags.foldl (fun q tag => if tag.1 then tag.2 q else q) p).eventFlags = p.eventFlags := by
  induction tags generalizing p with
  | nil => rfl
  | cons tag tags ih =>
    obtain ⟨first, rest⟩ := List.forall_mem_cons.1 keeps
    rw [List.foldl_cons, ih rest]
    split
    · next here => exact first here p
    · rfl

section
variable (cart : Option Cartridge) (p : Ppu)

/-- The actions of a position, each with whether its tag matches there. -/
def tagsAt : List (Bool × (Ppu → Ppu)) := (tagTable cart).map fun tag => (tag.1 p, tag.2)

theorem ppuClock_eq_tagsAt :
    ppuClock cart p = advance ((tagsAt cart p).foldl (fun q tag => if tag.1 then tag.2 q else q) p) := by
  rw [ppuClock_eq_foldl, foldl_whenTag (tagTable_placed cart) rfl, tagsAt]

variable {p}

/-- At (-1, 1) the pre-render clear is all there is to do. -/
theorem ppuClock_preRender (line : p.scanline = -1) (dot : p.cycle = 1) :
    ppuClock cart p = advance (preRenderClear p) := by
  rw [ppuClock_eq_tagsAt]
  simp [tagsAt, tagTable, line, dot, Ppu.atPreRenderClear, Ppu.atTransferY, Ppu.atProcessTile, Ppu.atIncrementY,
    Ppu.atTransferX, Ppu.atExtraFetch, Ppu.atOamEvaluation, Ppu.atSpriteFetch, Ppu.atEndOfFrame, Ppu.atVisiblePixel,
    Ppu.onVisibleLine, Ppu.onRenderLine]

/-- At (241, 1) the end of the frame is all there is to do. -/
theorem ppuClock_endOfFrame (line : p.scanline = 241) (dot : p.cycle = 1) :
    ppuClock cart p = advance (endOfFrame p) := by
  rw [ppuClock_eq_tagsAt]
  simp [tagsAt, tagTable, line, dot, Ppu.atPreRenderClear, Ppu.atTransferY, Ppu.atProcessTile, Ppu.atIncrementY,
    Ppu.atTransferX, Ppu.atExtraFetch, Ppu.atOamEvaluation, Ppu.atSpriteFetch, Ppu.atEndOfFrame, Ppu.atVisiblePixel,
    Ppu.onVisibleLine, Ppu.onRenderLine]

/-- At every other position a clock leaves vertical blank and the NMI latch alone. -/
theorem ppuClock_eventFlags (pre : ¬ (p.scanline = -1 ∧ p.cycle = 1)) (post : ¬ (p.scanline = 241 ∧ p.cycle = 1)) :
    (ppuClock cart p).eventFlags = p.eventFlags := by
  rw [ppuClock_eq_tagsAt, advance_eventFlags, foldl_eventFlags]
  simp only [tagsAt, tagTable, List.map, List.forall_mem_cons]
  refine ⟨fun here => absurd here (by simpa [Ppu.atPreRenderClear] using pre), fun _ => transferY_eventFlags,
    fun _ => processTile_eventFlags cart, fun _ => incrementScrollY_eventFlags, fun _ _ => rfl,
    fun _ => transferX_eventFlags, fun _ _ => rfl, fun _ => oamEvaluate_eventFlags, fun _ _ => rfl,
    fun here => absurd here (by simpa [Ppu.atEndOfFrame] using post), fun _ => composePixel_eventFlags cart, nofun⟩

variable (p)

/-- A clock sets vertical blank at (241, 1), clears it at (-1, 1), and otherwise leaves it (R381, R384). -/
theorem ppuClock_verticalBlank :
    (ppuClock cart p).verticalBlank =
      if p.scanline = 241 ∧ p.cycle = 1 then true
      else if p.scanline = -1 ∧ p.cycle = 1 then false else p.verticalBlank := by
  by_cases post : p.scanline = 241 ∧ p.cycle = 1
  · rw [if_pos post, ppuClock_endOfFrame cart post.1 post.2]
    refine (congrArg Prod.fst (advance_eventFlags _)).trans ?_
    rw [endOfFrame_eq]
    simp [Ppu.eventFlags, Ppu.verticalBlank]
  · rw [if_neg post]
    by_cases pre : p.scanline = -1 ∧ p.cycle = 1
    · rw [if_pos pre, ppuClock_preRender cart pre.1 pre.2]
      refine (congrArg Prod.fst (advance_eventFlags _)).trans ?_
      rw [preRenderClear_eq]
      simp [Ppu.eventFlags, Ppu.verticalBlank]
    · rw [if_neg pre]
      exact congrArg Prod.fst (ppuClock_eventFlags cart pre post)

/-- A clock raises the NMI latch at (241, 1) where ENABLE_NMI allows it, and never clears it (R384, R395). -/
theorem ppuClock_nmiPending :
    (ppuClock cart p).nmiPending =
      (p.nmiPending || (decide (p.scanline = 241 ∧ p.cycle = 1) && p.ctrl.getLsbD 7)) := by
  by_cases post : p.scanline = 241 ∧ p.cycle = 1
  · rw [decide_eq_true post, Bool.true_and, ppuClock_endOfFrame cart post.1 post.2]
    refine (congrArg Prod.snd (advance_eventFlags _)).trans ?_
    rw [endOfFrame_eq]
    rfl
  · rw [decide_eq_false post, Bool.false_and, Bool.or_false]
    by_cases pre : p.scanline = -1 ∧ p.cycle = 1
    · rw [ppuClock_preRender cart pre.1 pre.2]
      exact congrArg Prod.snd (advance_eventFlags _)
    · exact congrArg Prod.snd (ppuClock_eventFlags cart pre post)

end

/-- The schedule of O50 is the table, with each tag's conditions joined. -/
theorem tagsAt_eq (cart : Option Cartridge) (p : Ppu) :
    let visible := decide (0 ≤ p.scanline ∧ p.scanline ≤ 239)
    let rendered := decide (-1 ≤ p.scanline ∧ p.scanline ≤ 239)
    tagsAt cart p =
      [(decide (p.scanline = -1 ∧ p.cycle = 1), preRenderClear),
       (decide (p.scanline = -1 ∧ 280 ≤ p.cycle ∧ p.cycle ≤ 304), transferY),
       (rendered && decide (2 ≤ p.cycle ∧ p.cycle ≤ 257 ∨ 321 ≤ p.cycle ∧ p.cycle ≤ 337), processTile cart),
       (visible && decide (p.cycle = 256), incrementScrollY), (rendered && decide (p.cycle = 257), loadBgShifters),
       (rendered && decide (p.cycle = 257), transferX),
       (rendered && decide (p.cycle = 338 ∨ p.cycle = 340), fetchNametable cart),
       (visible && decide (p.cycle = 257), oamEvaluate), (visible && decide (p.cycle = 340), spriteFetch cart),
       (decide (p.scanline = 241 ∧ p.cycle = 1), endOfFrame),
       (visible && decide (1 ≤ p.cycle ∧ p.cycle ≤ 256), composePixel cart)] := by
  simp only [tagsAt, tagTable, List.map, Bool.decide_and, Bool.decide_or, Bool.and_assoc, Ppu.atPreRenderClear,
    Ppu.atTransferY, Ppu.atProcessTile, Ppu.atIncrementY, Ppu.atTransferX, Ppu.atExtraFetch, Ppu.atOamEvaluation,
    Ppu.atSpriteFetch, Ppu.atEndOfFrame, Ppu.atVisiblePixel, Ppu.onVisibleLine, Ppu.onRenderLine]

/-- What the pre-render clear takes from STATUS, and the shifters it clears, outlast the advance (R381, R389). -/
theorem ppuClock_preRender_cleared (cart : Option Cartridge) {p : Ppu} (line : p.scanline = -1) (dot : p.cycle = 1) :
    let q := ppuClock cart p
    q.spriteOverflow = false ∧ q.spriteZeroHit = false ∧ ∀ e ∈ q.sprites.toList, e.patLo = 0 ∧ e.patHi = 0 := by
  intro q
  have advanced : q = { preRenderClear p with cycle := 2 } := by
    rw [show q = _ from ppuClock_preRender cart line dot, preRenderClear_eq, advance]
    simp [dot]
  rw [advanced, preRenderClear_eq]
  refine ⟨by simp [Ppu.spriteOverflow], by simp [Ppu.spriteZeroHit], fun e member => ?_⟩
  rw [clearShifters_toList, List.mem_map] at member
  obtain ⟨e', -, rfl⟩ := member
  exact ⟨rfl, rfl⟩

/-- Settles O50: the tags of a position run in the table's order, and two of them alone write what the program sees. -/
theorem frameEvents : Obligations.FrameEvents := by
  unfold Obligations.FrameEvents
  intro cart p visible rendered schedule
  have clocked : ppuClock cart p = advance (schedule.foldl (fun q tag => if tag.1 then tag.2 q else q) p) := by
    rw [ppuClock_eq_tagsAt, tagsAt_eq]
  refine ⟨clocked, by rw [preRenderClear_eq], rfl, endOfFrame_eq p, fun onFrame => ?_⟩
  intro place complete q
  obtain ⟨line, dot, complete'⟩ := ppuClock_position cart onFrame
  exact ⟨advance_eq onFrame, Prod.ext line dot, complete', ppuClock_verticalBlank cart p,
    ppuClock_preRender_cleared cart, ppuClock_nmiPending cart p⟩

end Sys2Proof.Machine
end


section
/-! The exception and reset family: the NMI, the host's reset, and ticks in which the CPU only counts. -/

namespace Sys2Proof.Machine

/-! ### The NMI (R331, R395) -/

theorem nmiStatus_eq (p : Byte) : nmiStatus p = (p &&& 0xEF) ||| 0x24 := BitVec.or_assoc ..

/-- The NMI pushes PC and its status byte and goes to the word at its vector (R331). -/
theorem cpuNmi_eq_pushAll (s : State) :
    cpuNmi s =
      (((pushAll [hiByte s.cpu.pc, loByte s.cpu.pc, nmiStatus s.cpu.p] s).setP (nmiStatus s.cpu.p)).setPc
        (wordOf (s.peek 0xFFFA) (s.peek 0xFFFB))).setCycles 8 := by
  rw [cpuNmi_eq, vectorWord_eq_peek s (by decide) (by decide)]
  simp only [pushAll, List.foldl, push_eq]
  rfl

/-- Settles O48: the entry is three pushes, and the vector is in PRG ROM, which no push changes. -/
theorem nmiSequence : Obligations.NmiSequence := by
  unfold Obligations.NmiSequence
  intro s p t
  have pushes : t = _ := cpuNmi_eq_pushAll s
  rw [nmiStatus_eq] at pushes
  constructor
  · rw [pushes, State.setCycles, State.setPc, State.setP, pushAll_cpu]
    rfl
  · rw [pushes]
    exact (pushAll_pushedBytes _ s (by simp)).of_outside (.refl s) rfl (setCpu_outside ..) rfl

@[simp] theorem cpuNmi_cycles (s : State) : (cpuNmi s).cpu.cycles = 8 := rfl

@[simp] theorem cpuNmi_ppu (s : State) : (cpuNmi s).ppu = s.ppu := (nmiSequence s).2.ppu

@[simp] theorem cpuNmi_dma (s : State) : (cpuNmi s).dma = s.dma := (nmiSequence s).2.dma

/-- Settles O49: the slot leaves the latch alone, and the NMI phase takes and clears it. -/
theorem nmiLatch : Obligations.NmiLatch := by
  unfold Obligations.NmiLatch
  refine ⟨fun s => ppuClock_nmiPending s.cart s.ppu, fun s ready latched => ?_, fun s t next => ?_⟩
  · obtain ⟨u, slot, same⟩ := slotPhase_next (ppuPhase s)
    have still : u.ppu.nmiPending = (ppuPhase s).ppu.nmiPending := congrArg Clockwork.nmiPending same
    refine ⟨u, slot, ?_⟩
    rw [step_of_slot ready slot still, if_pos latched]
  · cases ready : s.ready
    · rw [(stepStopsOnlyBeforeReset s).2 ready] at next
      cases next
    · obtain ⟨u, stepped, clock⟩ := step_next ready
      cases stepped.symm.trans next
      exact congrArg Clockwork.nmiPending clock

/-! ### The host's reset (R450) -/

theorem hostReset_eq (position : Int × Nat) (s : State) :
    hostReset position s =
      { s with
        cpu := .reset (wordOf (s.peek 0xFFFC) (s.peek 0xFFFD)), ppu := ppuReset position s.ppu, dma := .reset
        pads := .reset, ticks := 0, ready := true } := by
  rw [hostReset, memRead16_high _ (by decide) (by decide), vectorWord_eq_peek s (by decide) (by decide)]
  rfl

/-- Settles O5: the vector is read without effect, and every value is the one R62 gives. -/
theorem hostReset_values : Obligations.HostReset := by
  unfold Obligations.HostReset
  intro position s t
  have units : ∀ e ∈ s.ppu.sprites.clearShifters.toList, e.patLo = 0 ∧ e.patHi = 0 := by
    rw [clearShifters_toList, List.forall_mem_map]
    exact fun _ _ => ⟨rfl, rfl⟩
  rw [show t = _ from hostReset_eq position s]
  exact ⟨rfl, rfl, rfl, rfl, rfl, rfl, rfl, rfl, units, rfl, rfl, rfl, rfl, rfl, rfl, rfl, rfl, rfl, rfl, rfl, rfl, rfl⟩

/-! ### Ticks in which the CPU only counts (R172) -/

theorem advance_keeps (p : Ppu) :
    (advance p).ctrl = p.ctrl ∧ (advance p).oamAddr = p.oamAddr ∧ (advance p).oam = p.oam := by
  unfold advance
  split
  · split <;> exact ⟨rfl, rfl, rfl⟩
  · exact ⟨rfl, rfl, rfl⟩

/-- The registers and OAM, which the PPU's clock only reads. -/
theorem ppuClock_keeps (cart : Option Cartridge) (p : Ppu) :
    (ppuClock cart p).ctrl = p.ctrl ∧ (ppuClock cart p).oamAddr = p.oamAddr ∧ (ppuClock cart p).oam = p.oam := by
  have frame := tagFrame_tagActions cart p
  obtain ⟨ctrl, oamAddr, oam⟩ := advance_keeps (whenTag Ppu.atVisiblePixel (composePixel cart) (tagActions cart p))
  rw [ppuClock, ctrl, oamAddr, oam]
  unfold whenTag
  split <;> exact ⟨frame.ctrl, frame.oamAddr, frame.oam⟩

/-- The tick takes an NMI: the latch is set as the PPU's clock leaves it (R342). -/
def State.nmiTick (s : State) : Bool := (ppuPhase s).ppu.nmiPending

/-- A tick with no dispatch and no DMA slot, before its NMI phase: the PPU's clock, and in a CPU slot one clock of the
count. -/
def countedTick (s : State) : State :=
  { ppuPhase s with cpu := { s.cpu with cycles := s.cpu.cycles - if (s.ticks + 1) % 3 = 0 then 1 else 0 } }

/-- A tick whose slot, if it has one, finds the DMA engine idle and a count left. -/
theorem step_of_counting {s : State} (ready : s.ready = true) (idle : s.dma.inProgress = false)
    (count : (s.ticks + 1) % 3 = 0 → s.cpu.cycles ≠ 0) :
    step s = .next (if s.nmiTick then
        cpuNmi { countedTick s with ppu := { (ppuPhase s).ppu with nmiPending := false } }
      else countedTick s) := by
  have slot : slotPhase (ppuPhase s) = .next (countedTick s) := by
    by_cases tick : (s.ticks + 1) % 3 = 0
    · rw [slotPhase_of_idle (s := ppuPhase s) tick idle, cpuClock_of_count (s := ppuPhase s) (count tick), countedTick,
        if_pos tick]
      rfl
    · rw [slotPhase_of_no_slot (s := ppuPhase s) tick, countedTick, if_neg tick]
      rfl
  exact step_of_slot ready slot rfl

/-- A machine that no NMI and no transfer disturbs. -/
structure Quiet (s : State) : Prop where
  ready    : s.ready = true
  idle     : s.dma.inProgress = false
  latch    : s.ppu.nmiPending = false
  disabled : s.ppu.ctrl.getLsbD 7 = false

theorem nmiTick_of_disabled {s : State} (latch : s.ppu.nmiPending = false) (disabled : s.ppu.ctrl.getLsbD 7 = false) :
    s.nmiTick = false := by
  rw [State.nmiTick, nmiLatch.1, latch, disabled, Bool.and_false, Bool.or_false]

/-- Until its count has run out a quiet machine counts a clock in every third tick, and nothing else of the CPU or of
RAM changes. -/
theorem run_of_quiet {n : Nat} {s : State} (quiet : Quiet s) (short : n + s.ticks % 3 ≤ 3 * s.cpu.cycles + 2) :
    ∃ t, run n s = .next t ∧ Quiet t ∧ t.ticks = s.ticks + n ∧ t.ram = s.ram ∧
      t.cpu = { s.cpu with cycles := s.cpu.cycles - (s.ticks % 3 + n) / 3 } := by
  induction n generalizing s with
  | zero => exact ⟨s, rfl, quiet, rfl, rfl, by rw [show (s.ticks % 3 + 0) / 3 = 0 by omega]; rfl⟩
  | succ n ih =>
    have next := step_of_counting quiet.ready quiet.idle fun tick => by omega
    rw [nmiTick_of_disabled quiet.latch quiet.disabled, if_neg Bool.false_ne_true] at next
    have quiet' : Quiet (countedTick s) :=
      ⟨quiet.ready, quiet.idle, nmiTick_of_disabled quiet.latch quiet.disabled,
        by rw [← quiet.disabled]; exact congrArg (·.getLsbD 7) (ppuClock_keeps s.cart s.ppu).1⟩
    have ticks : (countedTick s).ticks = s.ticks + 1 := rfl
    have cycles : (countedTick s).cpu.cycles = s.cpu.cycles - if (s.ticks + 1) % 3 = 0 then 1 else 0 := rfl
    obtain ⟨t, ran, quietT, ticksT, ramT, cpuT⟩ := ih quiet' (by rw [ticks, cycles]; split <;> omega)
    refine ⟨t, (run_succ_of_step next).trans ran, quietT, by omega, ramT, cpuT.trans ?_⟩
    have left : (countedTick s).cpu.cycles - ((countedTick s).ticks % 3 + n) / 3 =
        s.cpu.cycles - (s.ticks % 3 + (n + 1)) / 3 := by
      rw [ticks, cycles]
      split <;> omega
    rw [left]
    rfl

/-- Settles O12: eight clocks of the reset's count fall in the first 24 ticks, and tick 27 is the ninth CPU slot. -/
theorem firstInstructionAtTick27 : Obligations.FirstInstructionAtTick27 := by
  unfold Obligations.FirstInstructionAtTick27
  intro position s r
  have reset : r = _ := hostReset_eq position s
  have quiet : Quiet r := by
    rw [reset]
    exact ⟨rfl, rfl, rfl, (by decide : (0 : Byte).getLsbD 7 = false)⟩
  have ticks0 : r.ticks = 0 := by rw [reset]
  have cycles0 : r.cpu.cycles = 8 := by rw [reset]; rfl
  obtain ⟨t, ran, quietT, ticks, ram, cpu⟩ := run_of_quiet (n := 26) quiet (by omega)
  rw [ticks0, cycles0] at cpu
  rw [ticks0] at ticks
  refine ⟨t, ran, cpu, ticks, ram.trans (by rw [reset]), ?_⟩
  have tick : (ppuPhase t).ticks % 3 = 0 := by
    show (t.ticks + 1) % 3 = 0
    omega
  have count : (ppuPhase t).cpu.cycles = 0 := congrArg Cpu.cycles cpu
  rw [step_of_ready quietT.ready, slotPhase_of_idle tick quietT.idle, cpuClock_of_no_count count]
  rfl

end Sys2Proof.Machine
end


section
/-! The DMA family: how long a transfer still takes, and what it copies. -/

namespace Sys2Proof.Machine

/-! ### One tick of a transfer (R351) -/

/-- The end of a tick, as the NMI phase makes it of a slot's state (R342): it touches neither the DMA engine nor the
tick counter. -/
theorem finish_fields (taken : Bool) (d : State) :
    let t := if taken then cpuNmi { d with ppu := { d.ppu with nmiPending := false } } else d
    t.dma = d.dma ∧ t.ticks = d.ticks := by
  cases taken
  · exact ⟨rfl, rfl⟩
  · exact ⟨cpuNmi_dma _, (nmiSequence _).2.ticks⟩

section
variable {s t : State} (ready : s.ready = true) (next : step s = .next t)
include ready next

theorem step_dma_of_no_slot (tick : (s.ticks + 1) % 3 ≠ 0) : t.dma = s.dma := by
  cases ((waitingClock s ready).1 tick).symm.trans next
  exact (finish_fields _ (ppuPhase s)).1

variable (tick : (s.ticks + 1) % 3 = 0) (busy : s.dma.inProgress = true)
include tick busy

theorem step_dma_of_waiting (waiting : s.dma.waiting = true) :
    t.dma = { s.dma with waiting := decide ((s.ticks + 1) % 2 = 0) } := by
  cases (((waitingClock s ready).2.2 tick busy).1 waiting).symm.trans next
  exact (finish_fields _ _).1

theorem step_dma_of_read (working : s.dma.waiting = false) (even : (s.ticks + 1) % 2 = 0) :
    ∃ data, t.dma = { s.dma with data := data } := by
  cases (((waitingClock s ready).2.2 tick busy).2.1 working even).symm.trans next
  exact ⟨_, (finish_fields _ _).1⟩

theorem step_dma_of_write (working : s.dma.waiting = false) (odd : (s.ticks + 1) % 2 = 1) :
    let last := decide (s.dma.offset = 0xFF)
    t.dma = { s.dma with offset := s.dma.offset + 1, inProgress := !last, waiting := last } := by
  cases (((waitingClock s ready).2.2 tick busy).2.2 working odd).symm.trans next
  exact (finish_fields _ _).1

end

/-! ### The time a transfer still takes (R350 to R352) -/

/-- The number of the next tick that is a CPU slot (R340). -/
def nextSlot (ticks : Nat) : Nat := ticks + 3 - ticks % 3

/-- The slots before the next byte's read, or 1 less than none where it has been read already: a transfer waits for an
odd tick, then reads in even ticks and writes in odd ones (R351). -/
def Dma.lead (e : Dma) (slot : Nat) : Int :=
  if e.waiting then if slot % 2 = 1 then 1 else 2 else if slot % 2 = 1 then -1 else 0

/-- The CPU slots a transfer still takes, the next of them in tick `slot`: two for each byte (R351, R352). -/
def Dma.slotsLeft (e : Dma) (slot : Nat) : Int := e.lead slot + 2 * (256 - e.offset.toNat)

/-- The ticks a transfer still takes. -/
def State.dmaTicks (s : State) : Int := 3 * s.dma.slotsLeft (nextSlot s.ticks) - (s.ticks % 3 : Nat)

theorem Dma.slotsLeft_pos (e : Dma) (slot : Nat) : 1 ≤ e.slotsLeft slot := by
  have := e.offset.isLt
  unfold Dma.slotsLeft Dma.lead
  split <;> split <;> omega

theorem dmaTicks_pos (s : State) : 1 ≤ s.dmaTicks := by
  have := s.dma.slotsLeft_pos (nextSlot s.ticks)
  unfold State.dmaTicks
  omega

/-- One slot less of a transfer is left after each, and with the last the engine is idle again. -/
theorem step_slotsLeft {s t : State} (ready : s.ready = true) (next : step s = .next t) (tick : (s.ticks + 1) % 3 = 0)
    (busy : s.dma.inProgress = true) :
    if s.dma.slotsLeft (s.ticks + 1) = 1 then t.dma.inProgress = false ∧ t.dma.waiting = true ∧ t.dma.offset = 0
    else t.dma.inProgress = true ∧ t.dma.slotsLeft (s.ticks + 4) = s.dma.slotsLeft (s.ticks + 1) - 1 := by
  have offset := s.dma.offset.isLt
  rcases Nat.mod_two_eq_zero_or_one (s.ticks + 1) with even | odd
  · have odd' : (s.ticks + 4) % 2 = 1 := by omega
    cases working : s.dma.waiting
    · obtain ⟨data, dma⟩ := step_dma_of_read ready next tick busy working even
      simp only [Dma.slotsLeft, Dma.lead, dma, working, even, odd', busy, Bool.false_eq_true, if_true, if_false,
        Nat.zero_ne_one, true_and]
      rw [if_neg (by omega)]
      omega
    · have dma := step_dma_of_waiting ready next tick busy working
      simp only [Dma.slotsLeft, Dma.lead, dma, working, even, odd', busy, decide_true, if_true, if_false,
        Nat.zero_ne_one, true_and]
      rw [if_neg (by omega)]
      omega
  · have even' : (s.ticks + 4) % 2 = 0 := by omega
    cases working : s.dma.waiting
    · have dma := step_dma_of_write ready next tick busy working odd
      by_cases last : s.dma.offset = 0xFF
      · have one : s.dma.slotsLeft (s.ticks + 1) = 1 := by simp [Dma.slotsLeft, Dma.lead, working, odd, last]
        rw [if_pos one, dma, last]
        exact ⟨rfl, rfl, rfl⟩
      · have more : s.dma.offset.toNat ≠ 255 := mt (BitVec.eq_of_toNat_eq (y := 0xFF)) last
        have offset' : (s.dma.offset + 1).toNat = s.dma.offset.toNat + 1 := by bv_omega
        simp only [Dma.slotsLeft, Dma.lead, dma, working, odd, even', last, offset', decide_false, Bool.not_false,
          Bool.false_eq_true, if_true, if_false, Nat.zero_ne_one, true_and]
        rw [if_neg (by omega)]
        omega
    · have dma := step_dma_of_waiting ready next tick busy working
      simp only [Dma.slotsLeft, Dma.lead, dma, working, odd, even', busy, Nat.one_ne_zero, decide_false,
        Bool.false_eq_true, if_true, if_false, Nat.zero_ne_one, true_and]
      rw [if_neg (by omega)]
      omega

/-- One tick less of a transfer is left after each, and with the last the engine is idle again. -/
theorem step_dmaTicks {s t : State} (ready : s.ready = true) (next : step s = .next t) (ticks : t.ticks = s.ticks + 1)
    (busy : s.dma.inProgress = true) :
    if s.dmaTicks = 1 then t.dma.inProgress = false ∧ t.dma.waiting = true ∧ t.dma.offset = 0
    else t.dma.inProgress = true ∧ t.dmaTicks = s.dmaTicks - 1 := by
  by_cases tick : (s.ticks + 1) % 3 = 0
  · have here : s.dmaTicks = 3 * s.dma.slotsLeft (s.ticks + 1) - 2 := by
      rw [State.dmaTicks, show nextSlot s.ticks = s.ticks + 1 by unfold nextSlot; omega]
      omega
    have later : t.dmaTicks = 3 * t.dma.slotsLeft (s.ticks + 4) := by
      rw [State.dmaTicks, show nextSlot t.ticks = s.ticks + 4 by unfold nextSlot; omega]
      omega
    have slot := step_slotsLeft ready next tick busy
    by_cases last : s.dma.slotsLeft (s.ticks + 1) = 1
    · rw [if_pos last] at slot
      rwa [if_pos (by omega)]
    · rw [if_neg last] at slot
      rw [if_neg (by omega)]
      exact ⟨slot.1, by omega⟩
  · have slots := s.dma.slotsLeft_pos (nextSlot s.ticks)
    have dma := step_dma_of_no_slot ready next tick
    have same : nextSlot t.ticks = nextSlot s.ticks := by unfold nextSlot; omega
    have more : s.dmaTicks ≠ 1 := by unfold State.dmaTicks; omega
    rw [if_neg more, State.dmaTicks, State.dmaTicks, dma, same]
    exact ⟨busy, by omega⟩

/-- While ticks of it are left a transfer is in progress. -/
theorem run_dmaTicks {n : Nat} {s t : State} (ready : s.ready = true) (busy : s.dma.inProgress = true)
    (short : n < s.dmaTicks) (ran : run n s = .next t) :
    t.ready = true ∧ t.dma.inProgress = true ∧ t.dmaTicks = s.dmaTicks - n := by
  induction n generalizing s with
  | zero =>
    cases ran
    exact ⟨ready, busy, by omega⟩
  | succ n ih =>
    obtain ⟨u, next, clock⟩ := step_next ready
    have tick := step_dmaTicks ready next (congrArg Clockwork.ticks clock) busy
    rw [if_neg (by omega)] at tick
    rw [run_succ_of_step next] at ran
    obtain ⟨ready', busy', left⟩ := ih (step_keeps_ready ready next) tick.1 (by omega) ran
    exact ⟨ready', busy', by omega⟩

/-- A run of any length goes on once the machine has been reset. -/
theorem run_next (n : Nat) {s : State} (ready : s.ready = true) : ∃ t, run n s = .next t ∧ t.ready = true := by
  induction n generalizing s with
  | zero => exact ⟨s, rfl, ready⟩
  | succ n ih =>
    obtain ⟨u, next, -⟩ := step_next ready
    obtain ⟨t, ran, ready'⟩ := ih (step_keeps_ready ready next)
    exact ⟨t, (run_succ_of_step next).trans ran, ready'⟩

/-- When its ticks have passed a transfer is over, and the engine waits at offset 0 (R352). -/
theorem run_dmaTicks_last {n : Nat} {s t : State} (ready : s.ready = true) (busy : s.dma.inProgress = true)
    (all : n = s.dmaTicks) (ran : run n s = .next t) :
    t.dma.inProgress = false ∧ t.dma.waiting = true ∧ t.dma.offset = 0 := by
  have pos := dmaTicks_pos s
  obtain ⟨m, rfl⟩ : ∃ m, n = m + 1 := ⟨n - 1, by omega⟩
  obtain ⟨u, before, -⟩ := run_next m ready
  obtain ⟨ready', busy', left⟩ := run_dmaTicks ready busy (by omega) before
  obtain ⟨t', next, clock⟩ := step_next ready'
  rw [run_add before, run_succ_of_step next] at ran
  cases ran
  have tick := step_dmaTicks ready' next (congrArg Clockwork.ticks clock) busy'
  rwa [if_pos (by omega)] at tick

/-! ### What a transfer copies (R351, R354) -/

/-- A source page whose reads have no side effect: RAM, the open pages from 0x41, PRG ROM. -/
def SafePage (page : Byte) : Prop := page.toNat < 0x20 ∨ 0x41 ≤ page.toNat

/-- A read of a safe page is a peek, and depends on RAM and the cartridge alone. -/
theorem memRead_safePage {page : Byte} (safe : SafePage page) (k : Byte) {s t : State} (ram : t.ram = s.ram)
    (cart : t.cart = s.cart) : memRead (wordOf k page) t = (s.peek (wordOf k page), t) := by
  have low := k.isLt
  have address := wordOf_toNat k page
  by_cases memory : isMemory (wordOf k page) = true
  · rw [memRead_memory t memory, peek_memory ram cart memory]
  · simp only [isMemory, Bool.or_eq_true, decide_eq_true_eq, not_or, not_lt, not_le] at memory
    have unmapped : 0x4100 ≤ (wordOf k page).toNat := by
      rcases safe with h | h <;> omega
    have port : ¬ (wordOf k page = 0x4016 ∨ wordOf k page = 0x4017) := by
      rintro (h | h) <;> rw [h] at unmapped <;> exact absurd unmapped (by decide)
    have peek : s.peek (wordOf k page) = 0 := by
      simp only [State.peek, cpuRead, cartCpuRead_low _ memory.2, port,
        show ¬ (wordOf k page).toNat ≤ 0x1FFF by omega, show ¬ (wordOf k page).toNat ≤ 0x3FFF by omega, if_false]
    rw [memRead_unmapped _ t (by omega) (by omega) port, peek]

/-- A transfer under way from a safe page with the NMI disabled, begun at `s`: what it keeps, which bytes of the page
OAM already holds, and the byte in hand between a read and its write. -/
structure Copying (s t : State) : Prop where
  inv      : t.Inv
  ready    : t.ready = true
  latch    : t.ppu.nmiPending = false
  disabled : t.ppu.ctrl.getLsbD 7 = false
  cpu      : t.cpu = s.cpu
  ram      : t.ram = s.ram
  cart     : t.cart = s.cart
  oamAddr  : t.ppu.oamAddr = s.ppu.oamAddr
  page     : t.dma.page = s.dma.page
  copied   : ∀ k : Byte, (t.dma.inProgress = true → k.toNat < t.dma.offset.toNat) →
    t.ppu.oamByte k = s.peek (wordOf k s.dma.page)
  inHand   : t.dma.inProgress = true → t.dma.waiting = false → nextSlot t.ticks % 2 = 1 →
    t.dma.data = s.peek (wordOf t.dma.offset s.dma.page)

/-- The PPU's clock leaves the NMI latch clear and what a transfer has to do with the PPU as it is. -/
theorem ppuPhase_copying {s t : State} (c : Copying s t) :
    t.nmiTick = false ∧ (ppuPhase t).ppu.ctrl.getLsbD 7 = false ∧ (ppuPhase t).ppu.oamAddr = s.ppu.oamAddr ∧
      (ppuPhase t).ppu.oam = t.ppu.oam := by
  obtain ⟨ctrl, oamAddr, oam⟩ := ppuClock_keeps t.cart t.ppu
  refine ⟨nmiTick_of_disabled c.latch c.disabled, ?_, oamAddr.trans c.oamAddr, oam⟩
  rw [← c.disabled]
  exact congrArg (·.getLsbD 7) ctrl

section
variable {s t u : State} (c : Copying s t) (next : step t = .next u)
include c next

/-- What a tick of a transfer has to show: that it is the PPU's clock with the DMA engine's own changes, and what OAM
and the engine then hold. -/
theorem Copying.after {oam : Memory Byte} {dma : Dma}
    (same : u = { ppuPhase t with ppu := { (ppuPhase t).ppu with oam := oam }, dma := dma })
    (page : dma.page = t.dma.page)
    (copied : ∀ k : Byte, (dma.inProgress = true → k.toNat < dma.offset.toNat) →
      oam.read Config.oamInit k.toNat = s.peek (wordOf k s.dma.page))
    (inHand : dma.inProgress = true → dma.waiting = false → nextSlot (t.ticks + 1) % 2 = 1 →
      dma.data = s.peek (wordOf dma.offset s.dma.page)) : Copying s u := by
  obtain ⟨latch, disabled, oamAddr, -⟩ := ppuPhase_copying c
  have inv := stepKeepsInvariant t u c.inv next
  have ready := step_keeps_ready c.ready next
  rw [same] at inv ready ⊢
  exact ⟨inv, ready, latch, disabled, c.cpu, c.ram, c.cart, oamAddr, page.trans c.page, copied, inHand⟩

omit next in
/-- No NMI is taken. -/
theorem Copying.quiet : (ppuPhase t).ppu.nmiPending = false := (ppuPhase_copying c).1

omit next in
/-- OAM as the PPU's clock leaves it. -/
theorem Copying.kept (k : Byte) (before : t.dma.inProgress = true → k.toNat < t.dma.offset.toNat) :
    (ppuPhase t).ppu.oam.read Config.oamInit k.toNat = s.peek (wordOf k s.dma.page) := by
  rw [(ppuPhase_copying c).2.2.2]
  exact c.copied k before

theorem copying_outside (busy : t.dma.inProgress = true) (tick : (t.ticks + 1) % 3 ≠ 0) : Copying s u := by
  have same := next.symm.trans ((waitingClock t c.ready).1 tick)
  rw [c.quiet] at same
  have later : nextSlot (t.ticks + 1) = nextSlot t.ticks := by unfold nextSlot; omega
  exact c.after next (oam := (ppuPhase t).ppu.oam) (dma := t.dma) (Host.Outcome.next.inj same) rfl c.kept
    fun _ working odd => c.inHand busy working (later ▸ odd)

variable (tick : (t.ticks + 1) % 3 = 0) (busy : t.dma.inProgress = true)
include tick busy

theorem copying_wait (waiting : t.dma.waiting = true) : Copying s u := by
  have same := next.symm.trans (((waitingClock t c.ready).2.2 tick busy).1 waiting)
  rw [c.quiet] at same
  have later : nextSlot (t.ticks + 1) = t.ticks + 4 := by unfold nextSlot; omega
  refine c.after next (oam := (ppuPhase t).ppu.oam) (dma := { t.dma with waiting := decide ((t.ticks + 1) % 2 = 0) })
    (Host.Outcome.next.inj same) rfl c.kept fun _ working odd => ?_
  have : ¬ (t.ticks + 1) % 2 = 0 := of_decide_eq_false working
  omega

variable (working : t.dma.waiting = false)
include working

theorem copying_read (safe : SafePage s.dma.page) (even : (t.ticks + 1) % 2 = 0) : Copying s u := by
  have data := memRead_safePage (c.page ▸ safe) t.dma.offset (t := ppuPhase t) c.ram c.cart
  have same := next.symm.trans (((waitingClock t c.ready).2.2 tick busy).2.1 working even)
  rw [c.quiet, ← wordOf_eq_ofNat, data] at same
  exact c.after next (oam := (ppuPhase t).ppu.oam)
    (dma := { t.dma with data := s.peek (wordOf t.dma.offset t.dma.page) }) (Host.Outcome.next.inj same) rfl
    c.kept fun _ _ _ => congrArg (fun page => s.peek (wordOf t.dma.offset page)) c.page

theorem copying_write (odd : (t.ticks + 1) % 2 = 1) : Copying s u := by
  have same := next.symm.trans (((waitingClock t c.ready).2.2 tick busy).2.2 working odd)
  rw [c.quiet] at same
  have here : nextSlot t.ticks = t.ticks + 1 := by unfold nextSlot; omega
  have later : nextSlot (t.ticks + 1) = t.ticks + 4 := by unfold nextSlot; omega
  refine c.after next (Host.Outcome.next.inj same) rfl (fun k before => ?_) fun _ _ odd' => by omega
  rw [(ppuPhase_copying c).2.2.2]
  by_cases this : k = t.dma.offset
  · rw [this, Memory.read_write_same _ c.inv.oam.1]
    exact c.inHand busy working (here ▸ odd)
  · have other : k.toNat ≠ t.dma.offset.toNat := mt BitVec.eq_of_toNat_eq this
    rw [Memory.read_write_other _ _ _ other]
    refine c.copied k fun _ => ?_
    by_cases last : t.dma.offset = 0xFF
    · have top := k.isLt
      have full : t.dma.offset.toNat = 255 := congrArg BitVec.toNat last
      omega
    · have more : t.dma.offset.toNat ≠ 255 := mt (BitVec.eq_of_toNat_eq (y := 0xFF)) last
      have below : k.toNat < (t.dma.offset + 1).toNat := before (by simpa using last)
      bv_omega

end

/-- A tick of a transfer copies on: a slot waits, reads the byte at the offset, or writes it there (R351). -/
theorem copying_step {s t u : State} (c : Copying s t) (next : step t = .next u) (safe : SafePage s.dma.page)
    (busy : t.dma.inProgress = true) : Copying s u := by
  by_cases tick : (t.ticks + 1) % 3 = 0
  · cases working : t.dma.waiting
    · rcases Nat.mod_two_eq_zero_or_one (t.ticks + 1) with even | odd
      · exact copying_read c next tick busy working safe even
      · exact copying_write c next tick busy working odd
    · exact copying_wait c next tick busy working
  · exact copying_outside c next busy tick

/-- A transfer copies on through all its ticks. -/
theorem copying_run {n : Nat} {s t u : State} (safe : SafePage s.dma.page) (c : Copying s t)
    (busy : t.dma.inProgress = true) (short : n ≤ t.dmaTicks) (ran : run n t = .next u) : Copying s u := by
  induction n generalizing t with
  | zero =>
    cases ran
    exact c
  | succ n ih =>
    obtain ⟨v, next, clock⟩ := step_next c.ready
    have c' := copying_step c next safe busy
    have tick := step_dmaTicks c.ready next (congrArg Clockwork.ticks clock) busy
    rw [run_succ_of_step next] at ran
    split at tick
    · obtain rfl : n = 0 := by omega
      cases ran
      exact c'
    · exact ih c' tick.1 (by omega) ran

/-- A transfer just started takes 513 or 514 slots, by the parity of the tick that wrote 0x4014 (R350). -/
theorem dmaTicks_of_started {s : State} (tick : s.ticks % 3 = 0) (offset : s.dma.offset = 0)
    (waiting : s.dma.waiting = true) : s.dmaTicks = (3 * if s.ticks % 2 = 0 then 513 else 514 : Nat) := by
  have slot : nextSlot s.ticks = s.ticks + 3 := by unfold nextSlot; omega
  have first : s.dma.offset.toNat = 0 := congrArg BitVec.toNat offset
  simp only [State.dmaTicks, Dma.slotsLeft, Dma.lead, slot, waiting, first, tick, if_true]
  split <;> split <;> omega

/-- Settles O57: the ticks left count down whatever happens, and with the NMI disabled each read and write copies a
byte. -/
theorem dmaTransfer : Obligations.DmaTransfer := by
  unfold Obligations.DmaTransfer
  intro s inv ready tick offset busy waiting slots
  have left : s.dmaTicks = (3 * slots : Nat) := dmaTicks_of_started tick offset waiting
  refine ⟨fun n t short ran => (run_dmaTicks ready busy (by omega) ran).2.1, ?_⟩
  obtain ⟨t, ran, -⟩ := run_next (3 * slots) ready
  obtain ⟨idle, waits, start⟩ := run_dmaTicks_last ready busy left.symm ran
  refine ⟨t, ran, idle, waits, start, fun disabled latch safe => ?_⟩
  have c : Copying s s :=
    ⟨inv, ready, latch, disabled, rfl, rfl, rfl, rfl, rfl,
      fun k before => by simp [offset] at before; simp [before] at busy,
      fun _ working _ => by simp [waiting] at working⟩
  have c' := copying_run safe c busy left.ge ran
  exact ⟨fun k => c'.copied k fun working => by simp [idle] at working, c'.cpu, c'.ram, c'.oamAddr⟩

end Sys2Proof.Machine
end


section
/-! The host family: the controller ports' serial reads, and the host's controller and cartridge functions. -/

namespace Sys2Proof.Machine

/-! ### The serial reads (R356, R357) -/

/-- The address of a controller port (R86). -/
def portAddr (port : Bool) : Word := if port then 0x4017 else 0x4016

section
variable (port : Bool) (s : State)

theorem portAddr_port : portAddr port = 0x4016 ∨ portAddr port = 0x4017 := by cases port <;> decide

theorem portAddr_bit : (portAddr port).getLsbD 0 = port := by cases port <;> rfl

theorem memRead_portAddr :
    memRead (portAddr port) s =
      (if (s.pads.shift port).getLsbD 7 then 1 else 0,
        { s with pads := s.pads.setShift port (s.pads.shift port <<< 1) }) := by
  rw [memRead_port s (portAddr_port port), portAddr_bit]
  rfl

@[simp] theorem shift_setShift (d : Byte) (q : Pads) : (q.setShift port d).shift port = d := by cases port <;> rfl

@[simp] theorem setShift_setShift (c d : Byte) (q : Pads) :
    (q.setShift port c).setShift port d = q.setShift port d := by cases port <;> rfl

theorem setShift_shift (q : Pads) : q.setShift port (q.shift port) = q := by cases port <;> rfl

/-- Reads of a port give the latch's bits from bit 7 down, and shift it out (R357). -/
theorem readTimes_port (n : Nat) :
    readTimes n (portAddr port) s =
      ((List.range n).map fun k => if (s.pads.shift port <<< k).getLsbD 7 then 1 else 0,
        { s with pads := s.pads.setShift port (s.pads.shift port <<< n) }) := by
  induction n generalizing s with
  | zero => simp [readTimes, setShift_shift]
  | succ n ih =>
    rw [readTimes, memRead_portAddr]
    dsimp only
    rw [ih, List.range_succ_eq_map, List.map_cons, List.map_map]
    simp only [shift_setShift, setShift_setShift, ← BitVec.shiftLeft_add, Nat.add_comm 1, BitVec.shiftLeft_zero]
    rfl

end

/-- A strobe latches the port's buttons, whatever the byte written (R356). -/
theorem memWrite_portAddr (port : Bool) (d : Byte) (s : State) :
    memWrite (portAddr port) d s = { s with pads := s.pads.setShift port (s.pads.input port) } := by
  rw [memWrite_port d s (portAddr_port port), portAddr_bit]
  rfl

/-- Eight shifts bring the bits out from bit 7 down, and after them zeros (R357). -/
theorem getLsbD_seven_shiftLeft (b : Byte) (k : Nat) :
    (b <<< k).getLsbD 7 = (decide (k < 8) && b.getLsbD (7 - k)) := by
  rw [BitVec.getLsbD_shiftLeft]
  by_cases inByte : k < 8
  · simp [inByte, show ¬ 7 < k by omega]
  · simp [inByte, show 7 < k by omega]

/-- Settles O58: the strobe latches the port's buttons, and each read shifts one out. -/
theorem padReads : Obligations.PadReads := by
  unfold Obligations.PadReads
  intro port d n s addr buttons r
  have input : s.pads.input port = buttons := rfl
  have reads : r = _ := (congrArg (readTimes (8 + n) (portAddr port)) (memWrite_portAddr port d s)).trans
    (readTimes_port port _ (8 + n))
  rw [shift_setShift, setShift_setShift, input] at reads
  rw [reads]
  refine ⟨?_, ?_⟩
  · rw [List.range_add, List.map_append, List.map_map]
    refine congrArg₂ (· ++ ·) (List.map_congr_left fun k hk => ?_) (List.eq_replicate_iff.2 ⟨by simp, fun b hb => ?_⟩)
    · rw [getLsbD_seven_shiftLeft, decide_eq_true (List.mem_range.1 hk), Bool.true_and]
    · obtain ⟨k, -, rfl⟩ := List.mem_map.1 hb
      rw [Function.comp, getLsbD_seven_shiftLeft, decide_eq_false (by omega)]
      rfl
  · cases port <;> exact ⟨rfl, rfl, rfl⟩

/-! ### The controller functions (R358) -/

theorem controllerPort_of_ge {idx : Nat} (h : 2 ≤ idx) : controllerPort idx = .error .controllerIndex := by
  rw [controllerPort, if_neg (by omega), if_neg (by omega)]

theorem controllerFunctions_refuse {idx : Nat} (h : 2 ≤ idx) (mask : Byte) (s : State) :
    writeController idx mask s = .refused .controllerIndex ∧ clearController idx s = .refused .controllerIndex ∧
      getController idx s = .error .controllerIndex := by
  rw [writeController, clearController, getController, controllerPort_of_ge h]
  exact ⟨rfl, rfl, rfl⟩

/-! ### The insertion of a cartridge (R61, R90, R92, R94, R453) -/

theorem mapperAccepted_ok {id : Byte} (h : id = 0) : mapperAccepted id = .ok .nrom := if_pos h

theorem mapperAccepted_error {id : Byte} (h : id ≠ 0) : mapperAccepted id = .error .mapperNotSupported := if_neg h

theorem mirroringAccepted_ok {m : MirroringMode} (h : m = .horizontal ∨ m = .vertical) :
    ∃ k, m.accepted = .ok k ∧ (k = .vertical ↔ m = .vertical) := by
  rcases h with rfl | rfl
  · exact ⟨.horizontal, rfl, by simp⟩
  · exact ⟨.vertical, rfl, by simp⟩

theorem mirroringAccepted_error {m : MirroringMode} (h : ¬ (m = .horizontal ∨ m = .vertical)) :
    m.accepted = .error .onescreenMirroring := by
  cases m with
  | horizontal | vertical => simp at h
  | onescreenLo | onescreenHi => rfl

theorem prgBanksAccepted_ok {n : Nat} (h : n = 1 ∨ n = 2) :
    ∃ k, prgBanksAccepted n = .ok k ∧ k.bytes = 0x4000 * n := by
  rcases h with rfl | rfl
  · exact ⟨.one, rfl, rfl⟩
  · exact ⟨.two, rfl, rfl⟩

theorem prgBanksAccepted_error {n : Nat} (h : ¬ (n = 1 ∨ n = 2)) : prgBanksAccepted n = .error .prgBankCount := by
  rw [prgBanksAccepted, if_neg (by omega), if_neg (by omega)]

theorem chrBanksAccepted_ok {n : Nat} (h : n = 1) :
    ∃ k, chrBanksAccepted n = .ok k ∧ k.bytes = 0x2000 * n := by
  rw [h]
  exact ⟨.one, rfl, rfl⟩

theorem chrBanksAccepted_error {n : Nat} (h : n ≠ 1) : chrBanksAccepted n = .error .chrBankCount := if_neg h

/-- Settles O59: the checks are tried in order, and the first that fails names the refusal. -/
theorem hostFunctions : Obligations.HostFunctions := by
  unfold Obligations.HostFunctions
  refine ⟨fun mask s => ⟨rfl, rfl, rfl, rfl, rfl, rfl, fun idx h => controllerFunctions_refuse h mask s⟩, ?_⟩
  intro c s oneWay prgOk sizes
  refine ⟨fun mapper way prg chr lengths => ?_, fun mapper => ?_, fun mapper way => ?_, fun mapper way prg => ?_,
    fun mapper way prg chr => ?_, fun mapper way prg chr lengths => ?_⟩
  · obtain ⟨m, hm, vertical⟩ := mirroringAccepted_ok way
    obtain ⟨b, hb, prgBytes⟩ := prgBanksAccepted_ok prg
    obtain ⟨r, hr, chrBytes⟩ := chrBanksAccepted_ok chr
    have fits : c.prgRom.length = b.bytes ∧ c.chrRom.length = r.bytes := by
      rw [prgBytes, chrBytes]
      exact lengths
    rw [insertCartridge, CartridgeImage.toCartridge, mapperAccepted_ok mapper, hm, hb, hr]
    dsimp only
    rw [if_pos fits]
    exact ⟨_, rfl, vertical, prgBytes, chrBytes, rfl, Memory.ofBytes_read _, Memory.ofBytes_read _⟩
  · rw [insertCartridge, CartridgeImage.toCartridge, mapperAccepted_error mapper]
  · rw [insertCartridge, CartridgeImage.toCartridge, mapperAccepted_ok mapper, mirroringAccepted_error way]
  · obtain ⟨m, hm, -⟩ := mirroringAccepted_ok way
    rw [insertCartridge, CartridgeImage.toCartridge, mapperAccepted_ok mapper, hm, prgBanksAccepted_error prg]
  · obtain ⟨m, hm, -⟩ := mirroringAccepted_ok way
    obtain ⟨b, hb, -⟩ := prgBanksAccepted_ok prg
    rw [insertCartridge, CartridgeImage.toCartridge, mapperAccepted_ok mapper, hm, hb, chrBanksAccepted_error chr]
  · obtain ⟨m, hm, -⟩ := mirroringAccepted_ok way
    obtain ⟨b, hb, prgBytes⟩ := prgBanksAccepted_ok prg
    obtain ⟨r, hr, chrBytes⟩ := chrBanksAccepted_ok chr
    have fails : ¬ (c.prgRom.length = b.bytes ∧ c.chrRom.length = r.bytes) := by
      rw [prgBytes, chrBytes]
      exact lengths
    rw [insertCartridge, CartridgeImage.toCartridge, mapperAccepted_ok mapper, hm, hb, hr]
    dsimp only
    rw [if_neg fails]

end Sys2Proof.Machine
end


section
/-! The frame family: the two loops of `do_frame`, and why each ends (R454). -/

namespace Sys2Proof.Machine

/-! ### What the loops answer -/

/-- The drain stops at the first state with no count left, which may be the one it starts from. -/
theorem drainInstruction_next {fuel : Nat} {s t : State} (drained : drainInstruction fuel s = some (.next t)) :
    ∃ m, run m s = .next t ∧ t.cpu.cycles = 0 ∧ ∀ k w, k < m → run k s = .next w → w.cpu.cycles ≠ 0 := by
  unfold drainInstruction at drained
  split at drained
  · next complete =>
    cases drained
    exact ⟨0, rfl, of_decide_eq_true complete, fun k _ before => absurd before (Nat.not_lt_zero k)⟩
  · next running =>
    obtain ⟨m, -, -, ran, complete, first⟩ := clockUntil_next drained
    refine ⟨m, ran, of_decide_eq_true complete, fun k w before ran' count => ?_⟩
    rcases Nat.eq_zero_or_pos k with rfl | later
    · cases ran'
      exact running (decide_eq_true count)
    · exact of_decide_eq_false (first k w later before ran') count

/-- A frame step is its first loop, its drain, and the clearing of the frame-complete flag. -/
theorem doFrame_next {fuel : Nat} {s t : State} :
    doFrame fuel s = some (.next t) ↔
      ∃ u v, clockUntil State.frameIsComplete fuel s = some (.next u) ∧ drainInstruction fuel u = some (.next v) ∧
        t = { v with ppu := { v.ppu with frameComplete := false } } := by
  constructor
  · intro framed
    unfold doFrame at framed
    split at framed
    · next u until' =>
      obtain ⟨o, drained, cleared⟩ := Option.map_eq_some_iff.1 framed
      obtain ⟨v, rfl, same⟩ := onNext_next cleared
      exact ⟨u, v, until', drained, same⟩
    · next stop => exact absurd framed (stop t)
  · rintro ⟨u, v, until', drained, rfl⟩
    rw [doFrame, until']
    dsimp only
    rw [drained]
    rfl

/-! ### The first loop ends within a frame -/

/-- A machine between ticks: it has been reset, its PPU is on the frame and its NMI latch is clear. -/
structure Landed (s : State) : Prop where
  ready   : s.ready = true
  onFrame : s.ppu.positionOk
  latch   : s.ppu.nmiPending = false

theorem step_landed {s t : State} (ready : s.ready = true) (onFrame : s.ppu.positionOk) (next : step s = .next t) :
    Landed t :=
  ⟨step_keeps_ready ready next, (step_framePlace ready onFrame next).1, nmiLatch.2.2 s t next⟩

theorem run_landed {n : Nat} {s t : State} (ready : s.ready = true) (onFrame : s.ppu.positionOk) (some' : 1 ≤ n)
    (ran : run n s = .next t) : Landed t := by
  obtain ⟨m, rfl⟩ : ∃ m, n = m + 1 := ⟨n - 1, by omega⟩
  obtain ⟨u, before, ready', -, onFrame', -⟩ := ticksAndPosition m s ready onFrame
  obtain ⟨v, next, -⟩ := step_next ready'
  rw [run_add before, run_succ_of_step next] at ran
  cases ran
  exact step_landed ready' onFrame' next

/-- The tick after the last place of the frame reports the frame complete. -/
theorem frame_ends {s : State} (ready : s.ready = true) (onFrame : s.ppu.positionOk) :
    ∃ n t, 1 ≤ n ∧ run n s = .next t ∧ t.ppu.frameComplete = true := by
  have place := framePlace_lt onFrame
  obtain ⟨u, ran, ready', -, onFrame', last⟩ := ticksAndPosition (89341 - s.ppu.framePlace) s ready onFrame
  obtain ⟨t, next, -⟩ := step_next ready'
  obtain ⟨-, -, -, complete, -⟩ := step_position ready' onFrame' next
  refine ⟨89341 - s.ppu.framePlace + 1, t, Nat.le_add_left .., (run_add ran).trans (run_succ_of_step next), ?_⟩
  have corner : u.ppu.scanline = 260 ∧ u.ppu.cycle = 340 := by
    obtain ⟨low, high, inLine⟩ := onFrame'
    unfold Ppu.framePlace at last place
    omega
  rw [complete, decide_eq_true corner, Bool.or_true]

/-! ### The drain ends -/

/-- Some run from the state reaches one with no count left. -/
def Drains (s : State) : Prop := ∃ n t, run n s = .next t ∧ t.cpu.cycles = 0

theorem drains_of_run {m : Nat} {s t : State} (ran : run m s = .next t) (drains : Drains t) : Drains s := by
  obtain ⟨n, u, ran', done⟩ := drains
  exact ⟨m + n, u, (run_add ran).trans ran', done⟩

theorem drains_of_step {s t : State} (next : step s = .next t) : Drains t → Drains s :=
  drains_of_run (m := 1) (run_succ_of_step next)

/-- The ticks in which a count runs out that only counts. -/
def State.countTicks (s : State) : Nat := 3 * s.cpu.cycles - s.ticks % 3

/-- The ticks before the next that passes (241, 1), the place of the NMI (R395). -/
def Ppu.ticksToNmi (p : Ppu) : Nat := (82523 + 89342 - p.framePlace) % 89342

theorem ticksToNmi_of_nmiTick {s : State} (latch : s.ppu.nmiPending = false) (taken : s.nmiTick = true) :
    s.ppu.ticksToNmi = 0 := by
  rw [State.nmiTick, nmiLatch.1, latch, Bool.false_or, Bool.and_eq_true, decide_eq_true_eq] at taken
  obtain ⟨⟨line, cycle⟩, -⟩ := taken
  rw [Ppu.ticksToNmi, Ppu.framePlace, line, cycle]
  decide

/-- What a tick of a count leaves of it, and of the DMA engine. -/
theorem count_next {s : State} (ready : s.ready = true) (idle : s.dma.inProgress = false) (count : s.cpu.cycles ≠ 0) :
    ∃ t, step s = .next t ∧ t.dma = s.dma ∧
      t.cpu.cycles = if s.nmiTick then 8 else s.cpu.cycles - if (s.ticks + 1) % 3 = 0 then 1 else 0 := by
  refine ⟨_, step_of_counting ready idle fun _ => count, ?_⟩
  cases s.nmiTick
  · exact ⟨rfl, rfl⟩
  · exact ⟨cpuNmi_dma _, cpuNmi_cycles _⟩

/-- A tick of a count: the NMI puts a count of 8 in its place, a whole frame before the next NMI; otherwise a tick less
of it is left. -/
theorem count_step {s : State} (here : Landed s) (idle : s.dma.inProgress = false) (count : s.cpu.cycles ≠ 0) :
    ∃ t, step s = .next t ∧ Landed t ∧ t.dma.inProgress = false ∧
      if s.nmiTick then t.countTicks ≤ 24 ∧ t.ppu.ticksToNmi = 89341
      else t.countTicks + 1 = s.countTicks ∧
        (s.ppu.ticksToNmi ≠ 0 → t.ppu.ticksToNmi + 1 = s.ppu.ticksToNmi) := by
  obtain ⟨t, next, dma, cycles⟩ := count_next here.ready idle count
  have ticks := (step_position here.ready here.onFrame next).1
  have place := (step_framePlace here.ready here.onFrame next).2
  have start := framePlace_lt here.onFrame
  refine ⟨t, next, step_landed here.ready here.onFrame next, dma ▸ idle, ?_⟩
  cases taken : s.nmiTick <;> rw [taken] at cycles
  · refine ⟨?_, fun before => ?_⟩
    · simp only [Bool.false_eq_true, if_false] at cycles
      rw [State.countTicks, State.countTicks, cycles, ticks]
      split <;> omega
    · unfold Ppu.ticksToNmi at before ⊢
      omega
  · have now := ticksToNmi_of_nmiTick here.latch taken
    refine ⟨?_, ?_⟩
    · rw [State.countTicks, cycles, if_pos rfl]
      exact Nat.sub_le ..
    · unfold Ppu.ticksToNmi at now ⊢
      omega

/-- A count that has run out before the next NMI can come. -/
theorem drains_of_short {s : State} (here : Landed s) (idle : s.dma.inProgress = false)
    (short : s.countTicks ≤ s.ppu.ticksToNmi) : Drains s := by
  induction left : s.countTicks generalizing s with
  | zero => exact ⟨0, s, rfl, by unfold State.countTicks at left; omega⟩
  | succ n ih =>
    obtain ⟨t, next, here', idle', counted⟩ := count_step here idle fun none' => by
      rw [State.countTicks, none'] at left
      omega
    have quiet : s.nmiTick ≠ true := fun taken => by
      have := ticksToNmi_of_nmiTick here.latch taken
      omega
    rw [if_neg quiet] at counted
    obtain ⟨less, later⟩ := counted
    have later := later (by omega)
    exact drains_of_step next (ih here' idle' (by omega) (by omega))

/-- A count runs out, at the latest after an NMI. -/
theorem drains_of_idle {s : State} (here : Landed s) (idle : s.dma.inProgress = false) : Drains s := by
  induction left : s.countTicks generalizing s with
  | zero => exact ⟨0, s, rfl, by unfold State.countTicks at left; omega⟩
  | succ n ih =>
    obtain ⟨t, next, here', idle', counted⟩ := count_step here idle fun none' => by
      rw [State.countTicks, none'] at left
      omega
    refine drains_of_step next ?_
    split at counted
    · exact drains_of_short here' idle' (by omega)
    · exact ih here' idle' (by omega)

/-- A count runs out: a transfer under way ends first. -/
theorem drains {s : State} (here : Landed s) : Drains s := by
  cases busy : s.dma.inProgress
  · exact drains_of_idle here busy
  · have pos := dmaTicks_pos s
    have all : (s.dmaTicks.toNat : Int) = s.dmaTicks := by omega
    obtain ⟨t, ran, -⟩ := run_next s.dmaTicks.toNat here.ready
    have idle := (run_dmaTicks_last here.ready busy all ran).1
    exact drains_of_run ran (drains_of_idle (run_landed here.ready here.onFrame (by omega) ran) idle)

/-- From some bound on the drain loop answers. -/
theorem drainInstruction_of_drains {s : State} (drains : Drains s) :
    ∃ bound t, ∀ fuel, bound ≤ fuel → drainInstruction fuel s = some (.next t) := by
  unfold drainInstruction
  by_cases complete : s.instructionComplete = true
  · exact ⟨0, s, fun _ _ => if_pos complete⟩
  · obtain ⟨n, t, ran, done⟩ := drains
    have some' : 1 ≤ n := by
      rcases Nat.eq_zero_or_pos n with rfl | pos
      · cases ran
        exact absurd (decide_eq_true done) complete
      · exact pos
    obtain ⟨u, answer⟩ := clockUntil_of_run (done := State.instructionComplete) some' ran (decide_eq_true done)
    exact ⟨n, u, fun fuel enough => (if_neg complete).trans (answer fuel enough)⟩

/-- Settles O60: the loops answer the first state that passes their test, a frame has a last place, and a count runs
out. -/
theorem doFrame_stops : Obligations.DoFrame := by
  unfold Obligations.DoFrame
  refine ⟨fun fuel s t framed => ?_, fun s ready onFrame => ?_⟩
  · obtain ⟨u, v, until', drained, cleared⟩ := doFrame_next.1 framed
    obtain ⟨n, some', -, ran, complete, first⟩ := clockUntil_next until'
    obtain ⟨m, ran', done, first'⟩ := drainInstruction_next drained
    exact ⟨n, m, u, v, some', ran, complete, first, ran', done, first', cleared⟩
  · obtain ⟨n, t, some', ran, complete⟩ := frame_ends ready onFrame
    obtain ⟨u, until'⟩ := clockUntil_of_run (done := State.frameIsComplete) some' ran complete
    obtain ⟨k, some'', -, ran', -⟩ := clockUntil_next (until' n le_rfl)
    obtain ⟨bound, v, drained⟩ := drainInstruction_of_drains (drains (run_landed ready onFrame some'' ran'))
    exact ⟨max n bound, _, doFrame_next.2 ⟨u, v, until' _ (le_max_left ..), drained _ (le_max_right ..), rfl⟩⟩

end Sys2Proof.Machine
end
